-- ==== Sys2Proof/Word.lean ====
section
/-! DEFINITION. The two word types of the block: an octet and a 16-bit CRC value (00_scope.md R12). -/

namespace Sys2Proof

/-- An octet, "one 8-bit byte on the wire" (00_scope.md R12, R13). -/
abbrev Byte := BitVec 8

/-- A 16-bit value: a CRC (00_scope.md R12). -/
abbrev Word16 := BitVec 16

end Sys2Proof
end

