-- ==== Sys2Proof/Config.lean ====
section
/-! DEFINITION. The parameters of 00_scope.md R8. Those the spec gives a value are numbers here; those it calls OPEN,
and the values it leaves free, are constants without a value that any proof could see. -/

namespace Sys2Proof.Config

/-- The frame end octet (R8, 30_encoding.md R91). -/
def endOctet : Byte := 0xFF

/-- The escape octet (R8, R91). -/
def escOctet : Byte := 0xFE

/-- The initial CRC value (R8, 40_crc.md R122). -/
def crcSeed : Word16 := 0xFFFF

/-- CRC octets per frame (R8). -/
def crcLen : Nat := 2

/-- Octets of a MAC address (R8). -/
def addrLen : Nat := 6

/-- Ethernet header size (R8). PRESUMED by the spec itself from Ethernet; unsafe (log 8). -/
def ethHdrLen : Nat := 14

/-- Ethernet maximum frame length (R8). PRESUMED by the spec itself from Ethernet; unsafe (log 8). -/
def ethFrameLen : Nat := 1514

/-- Capacity of `rx_buf` (R8, 30_encoding.md R95). -/
def frameLen : Nat := ethFrameLen + crcLen

/-- The smallest `rx_len` that validates (R8, R95). -/
def minFrame : Nat := ethHdrLen + crcLen

/-- Retries after the first attempt (R8, 44_send.md R207). -/
def maxRetries : Nat := 3

/-- `TIMEOUT_USEC` (R8): no rule depends on it, and the tick period that relates it to `T` is not given (R311). -/
def timeoutUsec : Nat := 5000

/-- `TIMEOUT_TICKS`, the parameter `T`: OPEN, at least 1 (R8, 10_state.md R31). Log 6. -/
opaque timeoutTicks : ℕ+

/-- `MAC_ADDR`: OPEN, six octets; its constraint R9 is never checked by the block. Log 6. -/
opaque macAddr : Vector Byte 6

/-- `ENOBUFS`: OPEN, symbolic and positive (R8, 92_eei_decisions.md D27). Log 6. -/
opaque enobufs : ℕ+

/-- `EOVERFLOW`: OPEN, symbolic and positive (R8, D27); this core never answers it (R255). Log 6. -/
opaque eoverflow : ℕ+

/-- Free value: the content of `rx_buf` at reset, by index, which the spec leaves unspecified (10_state.md R45,
93_implementation_defined.md U1 "`any value`"). Log 10. -/
opaque rxBufReset : Nat → Byte

/-- Free value: the environment's choices for the back-off draws (00_scope.md R12 `draw`, 42_fsm.md R151, R152),
applied to the counter `State.freeCtr`. Log 5. -/
opaque backoffChoice : Nat → Nat

/-- Free value: the status that `SET.PROMISCUOUSMODE` answers, which the spec does not state
(91_not_in_source.md N12), applied to the counter `State.freeCtr`. Log 15. -/
opaque setStatus : Nat → Int

end Sys2Proof.Config
end

