-- ==== Sys2Proof/Syntax.lean ====
section
/-! DEFINITION. The operations of the block as data: one constructor of `Instr` per row of opcode_table.json,
in the table's order (30_encoding.md R90, R107). -/

namespace Sys2Proof

/-- The five values of the register `state` (10_state.md R21, 30_encoding.md R97). The non-states `INVALID` and `ANY`
are never held by it, so they are not values of this type. -/
inductive LinkState where
  | undef | blocked | idle | recv | send
deriving DecidableEq, Repr

/-- The six signals, the input alphabet of the FSM (42_fsm.md R140, 30_encoding.md R98). -/
inductive Signal where
  | init | gpio | uart | xtimer | send | endTx
deriving DecidableEq, Repr

/-- The value operand of `SET PROMISCUOUSMODE`: the abstract pair of 91_not_in_source.md N12, or another value
(93_implementation_defined.md U7). -/
inductive PromiscArg where
  | enable | disable
  | neither (raw : Byte)
deriving DecidableEq, Repr

/-- The operations. The comment of each group names its format (30_encoding.md R90). -/
inductive Instr where
  -- WIRE8: an octet arrives on the wire (R91)
  | wireEsc
  | wireEnd
  | wireData (octet : Byte)
  -- EDGE8: a (signal, state) pair (R100)
  | undefInit
  | blockedGpio
  | blockedXtimer
  | idleGpio
  | idleSend
  | recvUartEsc
  | recvUartEnd
  | recvUartData
  | recvXtimer
  | sendUart
  | sendXtimer
  | sendEnd
  | refused (signal state : BitVec 4)
  -- HOSTOP: a host operation (R103)
  | init
  | send (payload : List Byte)
  | isr
  | recvSize
  | recvDrop (len : Nat)
  | recvShort (len : Nat)
  | recvCopy (len : Nat)
  | getAddress (maxLen : Nat)
  | getPromiscuousMode
  | getOther (option : Byte)
  | setPromiscuousMode (value : PromiscArg)
  | setOther (option : Byte) (value : List Byte)
  -- PROC: internal procedures and the steps of the environment and the sequencer (R104)
  | crc16Update (crc : Word16) (octet : Byte)
  | crc16Frame (octets : List Byte)
  | crc16Check (octets : List Byte)
  | enc (octet : Byte)
  | encSeq (octets : List Byte)
  | dec (octet : Byte)
  | decSeq (octets : List Byte)
  | wireFrame (data : List Byte)
  | apply (signal : BitVec 4)
  | enterBlocked (origin : LinkState)
  | enterBlockedFromRecv
  | backoffFromSend
  | backoffOther
  | enterRecv
  | enterSend
  | clearRx
  | txOct (octet : Byte)
  | txData (octet : Byte)
  | txFrame (payload : List Byte)
  | txStep
  | txEcho (settled : LinkState)
  | uartRx (octet : Byte)
  | gpioFall
  | timerFire
deriving DecidableEq, Repr

end Sys2Proof
end

