-- ==== Sys2Proof/WellFormed.lean ====
section
/-! DEFINITION. Which operations an encoding can name: the conditions on operands that opcode_table.json states in a
row's `condition`, as far as they speak of the operands alone. -/

namespace Sys2Proof

/-- The ten edge codes of 30_encoding.md R100, signal code in bits 7:4 and state code in bits 3:0. -/
def edgeCodes : List Byte := [0x11, 0x22, 0x42, 0x23, 0x53, 0x34, 0x44, 0x35, 0x45, 0x65]

/-- The code `signal_code | state_code` (R100). -/
def edgeCode (signal state : BitVec 4) : Byte := signal ++ state

/-- A reserved octet, `END` or `ESC` (R91). -/
def isReserved (o : Byte) : Bool := o = Config.endOctet || o = Config.escOctet

/-- The option code of `PROMISCUOUSMODE` (DESIGN CHOICE, safe: the spec numbers no option; log 2). -/
def optPromiscuousMode : Byte := 0x00

/-- The option code of `ADDRESS` (DESIGN CHOICE, safe: the spec numbers no option; log 2). -/
def optAddress : Byte := 0x01

/-- A length operand fits its four octets in the packet (log 2). -/
def lenFits (n : Nat) : Bool := n < 2 ^ 32

/-- The value octet of `SET PROMISCUOUSMODE` that stands for neither enable (1) nor disable (0) (log 2). -/
def PromiscArg.wf : PromiscArg → Bool
  | .enable => true
  | .disable => true
  | .neither raw => raw ≠ 0 && raw ≠ 1

/-- The operands are ones the encoding can carry and the row's condition on them holds. -/
def Instr.wf : Instr → Bool
  | .wireData o => !isReserved o
  | .refused sg st => !edgeCodes.contains (edgeCode sg st)
  | .recvDrop len => 0 < len && lenFits len
  | .recvShort len => lenFits len
  | .recvCopy len => lenFits len
  | .getAddress maxLen => lenFits maxLen
  | .getOther opt => opt ≠ optPromiscuousMode && opt ≠ optAddress
  | .setPromiscuousMode v => v.wf
  | .setOther opt _ => opt ≠ optPromiscuousMode
  | .wireEsc | .wireEnd | .undefInit | .blockedGpio | .blockedXtimer | .idleGpio | .idleSend | .recvUartEsc
  | .recvUartEnd | .recvUartData | .recvXtimer | .sendUart | .sendXtimer | .sendEnd | .init | .send _ | .isr
  | .recvSize | .getPromiscuousMode | .crc16Update _ _ | .crc16Frame _ | .crc16Check _ | .enc _ | .encSeq _ | .dec _
  | .decSeq _ | .wireFrame _ | .apply _ | .enterBlocked _ | .enterBlockedFromRecv | .backoffFromSend | .backoffOther
  | .enterRecv | .enterSend | .clearRx | .txOct _ | .txData _ | .txFrame _ | .txStep | .txEcho _ | .uartRx _
  | .gpioFall | .timerFire => true

end Sys2Proof
end

