-- ==== Sys2Proof/Decode.lean ====
section
/-! DEFINITION. Packets and operations. A packet is the list of octets that names one operation: octet 0 is the code of
opcode_table.json, octet 1 the format it is read in, the rest the operands. The codes of `WIRE8`, `EDGE8` and `HOSTOP`
are the spec's (30_encoding.md R91, R100, R103); the format octet, the operand layout and the numbers of the `PROC`
rows are the model's (DESIGN CHOICE, safe: no behaviour depends on a number; log 2). -/

namespace Sys2Proof

/-- Why a packet names no operation. -/
inductive DecodeError where
  | emptyPacket
  | unknownFormat (f : Byte)
  | unknownHostOp (n : Byte)
  | unknownProc (n : Byte)
  | unknownForm (f : Byte)
  | missingOperand
  | badOperand (b : Byte)
  | trailingOctets
deriving DecidableEq, Repr

/-! ## State and signal codes -/

/-- The 4-bit code of a state (R97). -/
def LinkState.code : LinkState → BitVec 4
  | .undef => 0x1 | .blocked => 0x2 | .idle => 0x3 | .recv => 0x4 | .send => 0x5

/-- The state a 4-bit code stands for; `INVALID` (0x0), the reserved codes and `ANY` (0xF) stand for none (R97). -/
def LinkState.ofCode (c : BitVec 4) : Option LinkState :=
  if c = 0x1 then some .undef
  else if c = 0x2 then some .blocked
  else if c = 0x3 then some .idle
  else if c = 0x4 then some .recv
  else if c = 0x5 then some .send
  else none

/-- The high nibble of a signal's code (R98). -/
def Signal.code : Signal → BitVec 4
  | .init => 0x1 | .gpio => 0x2 | .uart => 0x3 | .xtimer => 0x4 | .send => 0x5 | .endTx => 0x6

/-- The signal a high nibble stands for; `NONE` (0x0) and the reserved codes stand for none (R98). -/
def Signal.ofCode (c : BitVec 4) : Option Signal :=
  if c = 0x1 then some .init
  else if c = 0x2 then some .gpio
  else if c = 0x3 then some .uart
  else if c = 0x4 then some .xtimer
  else if c = 0x5 then some .send
  else if c = 0x6 then some .endTx
  else none

/-! ## Operand octets -/

/-- Four octets of a length, least significant first (log 2). -/
def lenOctets (n : Nat) : List Byte :=
  [BitVec.ofNat 8 n, BitVec.ofNat 8 (n / 2 ^ 8), BitVec.ofNat 8 (n / 2 ^ 16), BitVec.ofNat 8 (n / 2 ^ 24)]

/-- The length that the first four octets stand for; an octet that is not there counts as zero. -/
def octetsLen (ops : List Byte) : Nat :=
  (ops.getD 0 0).toNat + 2 ^ 8 * (ops.getD 1 0).toNat + 2 ^ 16 * (ops.getD 2 0).toNat + 2 ^ 24 * (ops.getD 3 0).toNat

/-- No operand octets beyond the first `k` but padding zeros. -/
def exactly (k : Nat) (ops : List Byte) (i : Instr) : Except DecodeError Instr :=
  if (ops.drop k).all (· = 0) then .ok i else .error .trailingOctets

/-! ## The four formats -/

/-- `WIRE8`: the classes of R91, tried in the order of the table's priorities (R107). -/
def decodeWire (c : Byte) (ops : List Byte) : Except DecodeError Instr :=
  exactly 0 ops (if c = Config.escOctet then .wireEsc else if c = Config.endOctet then .wireEnd else .wireData c)

/-- Which sub-form of edge 0x34 a form octet names. The code does not select it (R100); what the step does is decided
by `last_octet` and `flags.ESC` in any case (log 17). -/
def decodeRecvUart (ops : List Byte) : Except DecodeError Instr :=
  let f := ops.getD 0 0
  if f = 0 then exactly 1 ops .recvUartData
  else if f = 1 then exactly 1 ops .recvUartEsc
  else if f = 2 then exactly 1 ops .recvUartEnd
  else .error (.unknownForm f)

/-- The edges of R100 by their code, without the catch-all. -/
def edgeOfCode (c : Byte) : Option Instr :=
  if c = 0x11 then some .undefInit
  else if c = 0x22 then some .blockedGpio
  else if c = 0x42 then some .blockedXtimer
  else if c = 0x23 then some .idleGpio
  else if c = 0x53 then some .idleSend
  else if c = 0x44 then some .recvXtimer
  else if c = 0x35 then some .sendUart
  else if c = 0x45 then some .sendXtimer
  else if c = 0x65 then some .sendEnd
  else none

/-- `EDGE8`: signal code in bits 7:4, state code in bits 3:0; every code that is no edge is `REFUSED` (R100, R101). -/
def decodeEdge (c : Byte) (ops : List Byte) : Except DecodeError Instr :=
  if c = 0x34 then decodeRecvUart ops
  else
    match edgeOfCode c with
    | some i => exactly 0 ops i
    | none => exactly 0 ops (.refused (c.extractLsb' 4 4) (c.extractLsb' 0 4))

/-- `RECV`: the form octet says whether the caller's buffer is absent (0) or present (1 or 2), then `len` (R103). -/
def decodeRecv (ops : List Byte) : Except DecodeError Instr :=
  let f := ops.getD 0 0
  let len := octetsLen ops.tail
  if f = 0 then exactly 5 ops (if len = 0 then .recvSize else .recvDrop len)
  else if f = 1 then exactly 5 ops (.recvShort len)
  else if f = 2 then exactly 5 ops (.recvCopy len)
  else .error (.unknownForm f)

/-- `GET`: the option, and `maxLen` for the address (R103). -/
def decodeGet (ops : List Byte) : Except DecodeError Instr :=
  let opt := ops.getD 0 0
  if opt = optPromiscuousMode then exactly 1 ops .getPromiscuousMode
  else if opt = optAddress then exactly 5 ops (.getAddress (octetsLen ops.tail))
  else exactly 1 ops (.getOther opt)

/-- The value octet of `SET PROMISCUOUSMODE`. -/
def PromiscArg.ofOctet (b : Byte) : PromiscArg :=
  if b = 0 then .disable else if b = 1 then .enable else .neither b

/-- The octet of a `SET PROMISCUOUSMODE` value. -/
def PromiscArg.octet : PromiscArg → Byte
  | .disable => 0
  | .enable => 1
  | .neither raw => raw

/-- `SET`: the option, then its value (R103). -/
def decodeSet (ops : List Byte) : Except DecodeError Instr :=
  let opt := ops.getD 0 0
  if opt = optPromiscuousMode then exactly 2 ops (.setPromiscuousMode (PromiscArg.ofOctet (ops.getD 1 0)))
  else .ok (.setOther opt ops.tail)

/-- `HOSTOP`: the numbers of R103. -/
def decodeHost (n : Byte) (ops : List Byte) : Except DecodeError Instr :=
  if n = 0x01 then exactly 0 ops .init
  else if n = 0x02 then .ok (.send ops)
  else if n = 0x03 then exactly 0 ops .isr
  else if n = 0x04 then decodeRecv ops
  else if n = 0x05 then decodeGet ops
  else if n = 0x06 then decodeSet ops
  else .error (.unknownHostOp n)

/-- One octet operand. -/
def decodeOctet (ops : List Byte) (f : Byte → Instr) : Except DecodeError Instr :=
  match ops with
  | [o] => .ok (f o)
  | [] => .error .missingOperand
  | _ => .error .trailingOctets

/-- One state operand, by its code. -/
def decodeLink (ops : List Byte) (f : LinkState → Instr) : Except DecodeError Instr :=
  match ops with
  | [o] =>
    match LinkState.ofCode (o.extractLsb' 0 4) with
    | some l => if o.extractLsb' 4 4 = 0 then .ok (f l) else .error (.badOperand o)
    | none => .error (.badOperand o)
  | [] => .error .missingOperand
  | _ => .error .trailingOctets

/-- One signal operand: its code in the high nibble, the low nibble 0 (R98). Every signal code is read, the reserved
ones too: applying one is refused (R98). -/
def decodeSignal (ops : List Byte) : Except DecodeError Instr :=
  match ops with
  | [o] => if o.extractLsb' 0 4 = 0 then .ok (.apply (o.extractLsb' 4 4)) else .error (.badOperand o)
  | [] => .error .missingOperand
  | _ => .error .trailingOctets

/-- `CRC16.UPDATE`: the CRC value, high octet first, then the octet. -/
def decodeCrcUpdate (ops : List Byte) : Except DecodeError Instr :=
  match ops with
  | [hi, lo, o] => .ok (.crc16Update (hi ++ lo) o)
  | _ :: _ :: _ :: _ => .error .trailingOctets
  | _ => .error .missingOperand

/-- `PROC`: the procedures of R104, numbered in the order of opcode_table.json (DESIGN CHOICE, safe; log 2). -/
def decodeProc (n : Byte) (ops : List Byte) : Except DecodeError Instr :=
  if n = 0x01 then decodeCrcUpdate ops
  else if n = 0x02 then .ok (.crc16Frame ops)
  else if n = 0x03 then .ok (.crc16Check ops)
  else if n = 0x04 then decodeOctet ops .enc
  else if n = 0x05 then .ok (.encSeq ops)
  else if n = 0x06 then decodeOctet ops .dec
  else if n = 0x07 then .ok (.decSeq ops)
  else if n = 0x08 then .ok (.wireFrame ops)
  else if n = 0x09 then decodeSignal ops
  else if n = 0x0A then decodeLink ops .enterBlocked
  else if n = 0x0B then exactly 0 ops .enterBlockedFromRecv
  else if n = 0x0C then exactly 0 ops .backoffFromSend
  else if n = 0x0D then exactly 0 ops .backoffOther
  else if n = 0x0E then exactly 0 ops .enterRecv
  else if n = 0x0F then exactly 0 ops .enterSend
  else if n = 0x10 then exactly 0 ops .clearRx
  else if n = 0x11 then decodeOctet ops .txOct
  else if n = 0x12 then decodeOctet ops .txData
  else if n = 0x13 then .ok (.txFrame ops)
  else if n = 0x14 then exactly 0 ops .txStep
  else if n = 0x15 then decodeLink ops .txEcho
  else if n = 0x16 then decodeOctet ops .uartRx
  else if n = 0x17 then exactly 0 ops .gpioFall
  else if n = 0x18 then exactly 0 ops .timerFire
  else .error (.unknownProc n)

/-- A code without a format (format octet 0 or no format octet): the rows of opcode_table.json with a full mask first,
whatever their format (no two formats share such a code), then the first catch-all row of the table, `WIRE.DATA`
(DESIGN CHOICE, safe; log 2). -/
def decodeAny (c : Byte) (ops : List Byte) : Except DecodeError Instr :=
  if edgeCodes.contains c then decodeEdge c ops
  else if 0x01 ≤ c ∧ c ≤ 0x06 then decodeHost c ops
  else decodeWire c ops

/-- The operation a packet names. -/
def decode (packet : List Byte) : Except DecodeError Instr :=
  match packet with
  | [] => .error .emptyPacket
  | [c] => decodeAny c []
  | c :: f :: ops =>
    if f = 0 then decodeAny c ops
    else if f = 1 then decodeWire c ops
    else if f = 2 then decodeEdge c ops
    else if f = 3 then decodeHost c ops
    else if f = 4 then decodeProc c ops
    else .error (.unknownFormat f)

/-! ## The encoder -/

/-- The packet of an operation, its format always written out. -/
def encode : Instr → List Byte
  | .wireEsc => [0xFE, 1]
  | .wireEnd => [0xFF, 1]
  | .wireData o => [o, 1]
  | .undefInit => [0x11, 2]
  | .blockedGpio => [0x22, 2]
  | .blockedXtimer => [0x42, 2]
  | .idleGpio => [0x23, 2]
  | .idleSend => [0x53, 2]
  | .recvUartEsc => [0x34, 2, 1]
  | .recvUartEnd => [0x34, 2, 2]
  | .recvUartData => [0x34, 2, 0]
  | .recvXtimer => [0x44, 2]
  | .sendUart => [0x35, 2]
  | .sendXtimer => [0x45, 2]
  | .sendEnd => [0x65, 2]
  | .refused sg st => [edgeCode sg st, 2]
  | .init => [0x01, 3]
  | .send payload => 0x02 :: 3 :: payload
  | .isr => [0x03, 3]
  | .recvSize => 0x04 :: 3 :: 0 :: lenOctets 0
  | .recvDrop len => 0x04 :: 3 :: 0 :: lenOctets len
  | .recvShort len => 0x04 :: 3 :: 1 :: lenOctets len
  | .recvCopy len => 0x04 :: 3 :: 2 :: lenOctets len
  | .getAddress maxLen => 0x05 :: 3 :: optAddress :: lenOctets maxLen
  | .getPromiscuousMode => [0x05, 3, optPromiscuousMode]
  | .getOther opt => [0x05, 3, opt]
  | .setPromiscuousMode v => [0x06, 3, optPromiscuousMode, v.octet]
  | .setOther opt value => 0x06 :: 3 :: opt :: value
  | .crc16Update crc o => [0x01, 4, crc.extractLsb' 8 8, crc.extractLsb' 0 8, o]
  | .crc16Frame s => 0x02 :: 4 :: s
  | .crc16Check s => 0x03 :: 4 :: s
  | .enc o => [0x04, 4, o]
  | .encSeq s => 0x05 :: 4 :: s
  | .dec o => [0x06, 4, o]
  | .decSeq w => 0x07 :: 4 :: w
  | .wireFrame d => 0x08 :: 4 :: d
  | .apply sg => [0x09, 4, sg ++ (0 : BitVec 4)]
  | .enterBlocked origin => [0x0A, 4, (0 : BitVec 4) ++ origin.code]
  | .enterBlockedFromRecv => [0x0B, 4]
  | .backoffFromSend => [0x0C, 4]
  | .backoffOther => [0x0D, 4]
  | .enterRecv => [0x0E, 4]
  | .enterSend => [0x0F, 4]
  | .clearRx => [0x10, 4]
  | .txOct o => [0x11, 4, o]
  | .txData o => [0x12, 4, o]
  | .txFrame p => 0x13 :: 4 :: p
  | .txStep => [0x14, 4]
  | .txEcho l => [0x15, 4, (0 : BitVec 4) ++ l.code]
  | .uartRx o => [0x16, 4, o]
  | .gpioFall => [0x17, 4]
  | .timerFire => [0x18, 4]

/-! ## The table's words -/

/-- The lowest `n` octets of a number, least significant first. -/
def wordOctets : Nat → Nat → List Byte
  | 0, _ => []
  | n + 1, w => BitVec.ofNat 8 w :: wordOctets n (w / 256)

/-- The packet of a table word of `nbits` bits: its octets in order; operand octets that are not there count as 0. -/
def tablePacket (nbits w : Nat) : List Byte := wordOctets (nbits / 8) w

/-- The operation the decoder reads from a table word. -/
def decodeTableWord (nbits w : Nat) : Option Instr :=
  match decode (tablePacket nbits w) with
  | .ok i => some i
  | .error _ => none

end Sys2Proof
end

