-- ==== Sys2Proof/Machine/State.lean ====
section
/-! DEFINITION. The state of one block (10_state.md R20), the ways a step can stop, and the state after reset (R45). -/

namespace Sys2Proof.Machine

/-- The register `flags` (R22 to R25): three one-bit flags. Its other bits read 0 and ignore writes (R22), so nothing
holds them. -/
structure Flags where
  /-- `flags.DIRTY` (R23). -/
  dirty : Bool
  /-- `flags.END` (R24). -/
  endSeen : Bool
  /-- `flags.ESC` (R25). -/
  esc : Bool
deriving DecidableEq, Repr

/-- The register `options` (R26). -/
structure Options where
  /-- `options.PROMISC` (R26). -/
  promisc : Bool
deriving DecidableEq, Repr

/-- The phases of the TX sequencer (R37, 44_send.md R206). -/
inductive TxPhase where
  | off | waitIdle | request | put | waitEcho | finish
deriving DecidableEq, Repr

/-- Which procedure the TX sequencer runs: the host operation `SEND` (44_send.md R207), or one of its parts issued by
itself (R203, R204, R205). The model's own; log 19. -/
inductive TxTask where
  | send
  | frame
  | data (octet : Byte)
  | oct (octet : Byte)
deriving DecidableEq, Repr

/-- The octets that have been written, by address, addresses strictly rising. An address that is not listed has not been
written, and the list holds no octet for it; what `rx_buf` reads there is `Config.rxBufReset` (log 10). -/
abbrev Memory := List Host.Cell

/-- The output events (00_scope.md R12). -/
inductive OutEvent where
  | uartTx (octet : Byte)
  | isrEvt
  | rxComplete
  | transition (settled : LinkState)
deriving DecidableEq, Repr

/-- The verdicts of the echo verifier (44_send.md R202). -/
inductive TxVerdict where
  | ok | collisionTimeout | collisionMismatch
deriving DecidableEq, Repr

/-- The verdicts of the decoding step (41_codec.md R133). -/
inductive DecVerdict where
  | escape
  | frameEnd
  | data (octet : Byte)
deriving DecidableEq, Repr

/-- The error numbers, symbolic (00_scope.md R8); their values are `Config.enobufs` and `Config.eoverflow`. -/
inductive Errno where
  | enobufs | eoverflow
deriving DecidableEq, Repr

/-- What an operation returns. -/
inductive OpResult where
  /-- A status: 0 of `INIT` (45_config.md R232), the unstated one of `SET.PROMISCUOUSMODE` (log 15). -/
  | status (v : Int)
  /-- The result of `SEND` (44_send.md R207). -/
  | sent (n : Nat)
  /-- The size `RECV` returns (43_receive.md R188, R189, R191). -/
  | size (n : Nat)
  /-- A negative error number (43_receive.md R190). -/
  | negative (e : Errno)
  /-- The address (45_config.md R233). -/
  | address (mac : Vector Byte 6)
  /-- Promiscuous mode enabled or not (45_config.md R234). -/
  | promisc (enabled : Bool)
  /-- The verdict `DELEGATED` (45_config.md R236). -/
  | delegated
  /-- A CRC value (40_crc.md R121, R122). -/
  | crc (v : Word16)
  /-- A CRC check (40_crc.md R123). -/
  | check (ok : Bool)
  /-- A sequence of octets (41_codec.md R131, R132, R135). -/
  | octets (s : List Byte)
  /-- A decoding step's verdict (41_codec.md R133). -/
  | decoded (v : DecVerdict)
  /-- A decoded sequence (41_codec.md R134). -/
  | decodedSeq (s : List Byte) (ended esc : Bool)
  /-- The state `APPLY` returns (42_fsm.md R141). -/
  | link (settled : LinkState)
  /-- A back-off (42_fsm.md R151, R152). -/
  | backoff (d : Nat)
  /-- The verdict of `TXOCT`, `TXDATA` or `TXFRAME` (44_send.md R203, R204, R205). -/
  | verdict (v : TxVerdict)
deriving DecidableEq, Repr

/-- The complete state of one block (R20), and behind it the model's own fields. -/
structure State where
  /-- `state` (R21). -/
  link : LinkState
  /-- `flags` (R22). -/
  flags : Flags
  /-- `options` (R26). -/
  options : Options
  /-- `mac` (R27). -/
  mac : Vector Byte 6
  /-- `rx_buf` (R28), `FRAME_LEN` octets: those written since reset, over the reset content `Config.rxBufReset`
  (`State.rxOctet`; log 10). -/
  rxBuf : Memory
  /-- `rx_len` (R29). -/
  rxLen : Nat
  /-- `last_octet` (R30). -/
  lastOctet : Byte
  /-- `timeout_ticks` (R31). -/
  timeoutTicks : Nat
  /-- `gpio_irq_en` (R32). -/
  gpioIrqEn : Bool
  /-- `tmr_armed` (R33). -/
  tmrArmed : Bool
  /-- `tmr_dur` (R33). -/
  tmrDur : Nat
  /-- `tx_phase` (R37). -/
  txPhase : TxPhase
  /-- `tx_retries` (R37). -/
  txRetries : Nat
  /-- `tx_crc` (R37). -/
  txCrc : Word16
  /-- `tx_pos` (R37). -/
  txPos : Nat
  /-- `tx_sub` (R37). -/
  txSub : Bool
  /-- `tx_expect` (R37). -/
  txExpect : Byte
  /-- The model's own: which procedure the sequencer runs (log 19). -/
  txTask : TxTask
  /-- The model's own: the payload, "an input the host holds stable" (R37; log 22). -/
  txPayload : List Byte
  /-- The model's own: the caller's buffer that `RECV.COPY` writes (log 21). -/
  callerBuf : Memory
  /-- The model's own: the output trace of R12, oldest first (log 3). -/
  trace : List OutEvent
  /-- The model's own: the returned values, oldest first (log 3). -/
  results : List OpResult
  /-- The model's own: the counter the free values are applied to (log 5). -/
  freeCtr : Nat
  /-- The model's own: the operations still to be done, in the total order of R11 (log 1). -/
  pending : List (List Byte)
deriving DecidableEq, Repr

/-- Why the machine stops. -/
inductive Fault where
  /-- Raised by a read at or above `FRAME_LEN` (`ISR`, `RECV.COPY`), an address that does not exist. Safe: 20_memory.md R63 says "No access is out of
  range". -/
  | outOfRange (address : Nat)
deriving DecidableEq, Repr

/-- Why an operation has no meaning. -/
inductive Refusal where
  /-- Raised by an arm of `exec` whose instruction has no meaning yet. Safe: nothing is claimed of it. -/
  | notModelled (mnemonic : String)
  /-- Raised by a step whose packet names no operation. Safe: the spec gives such a packet no meaning (log 2). -/
  | undecodable (e : DecodeError)
  /-- Raised by `RECV` outside its window (43_receive.md R187, R192, "*refuse*: no meaning"). Safe (log 11). -/
  | recvOutsideWindow
  /-- Raised by `SEND`, `TXOCT`, `TXDATA`, `TXFRAME` while the sequencer runs (93_implementation_defined.md U4, "a
  second `SEND` has no meaning"). Safe (log 12). -/
  | senderBusy
  /-- Raised by `GET.ADDRESS` with `maxLen < 6` (45_config.md R233, "a model refuses that case"). Safe (log 14). -/
  | addressBufferShort
  /-- Raised by `SET.PROMISCUOUSMODE` with a value that is neither enable nor disable (93_implementation_defined.md U7,
  "refuse"). Safe (log 14). -/
  | promiscValue
deriving DecidableEq, Repr

/-- The machine right after power-on reset (R45). Fields for which R45 says "unspecified" hold zero (DESIGN CHOICE,
unsafe; log 9); every octet of `rx_buf` holds the free value `Config.rxBufReset` of its index, since none is listed as
written (R45 "unspecified"; log 10); `mac` and `timeout_ticks` hold their parameters (log 6). -/
def State.reset : State where
  link := .undef
  flags := { dirty := false, endSeen := false, esc := false }
  options := { promisc := false }
  mac := Config.macAddr
  rxBuf := []
  rxLen := 0
  lastOctet := 0
  timeoutTicks := Config.timeoutTicks
  gpioIrqEn := false
  tmrArmed := false
  tmrDur := 0
  txPhase := .off
  txRetries := 0
  txCrc := 0
  txPos := 0
  txSub := false
  txExpect := 0
  txTask := .send
  txPayload := []
  callerBuf := []
  trace := []
  results := []
  freeCtr := 0
  pending := []

end Sys2Proof.Machine
end

