-- ==== Sys2Proof/Machine/Flags.lean ====
section
/-! DEFINITION. The flag computations: the register views of `flags` and `options` (30_encoding.md R99), clearing
(43_receive.md R181), and the one flag a decoding step writes (41_codec.md R133). -/

namespace Sys2Proof.Machine

/-- `flags` with all three bits 0 (R181). -/
def Flags.clear : Flags := { dirty := false, endSeen := false, esc := false }

/-- The register `flags` as bits: `DIRTY` 0x01, `END` 0x02, `ESC` 0x04, the rest 0 (R99, 10_state.md R22). -/
def Flags.bits (f : Flags) : Byte :=
  (if f.dirty then 0x01 else 0) ||| (if f.endSeen then 0x02 else 0) ||| (if f.esc then 0x04 else 0)

/-- The register `options` as bits: `PROMISC` 0x01, the rest 0 (R99). -/
def Options.bits (o : Options) : Byte := if o.promisc then 0x01 else 0

/-- `DEC(o)`: the verdict on one raw octet, given `flags.ESC` (41_codec.md R133). -/
def decVerdict (esc : Bool) (o : Byte) : DecVerdict :=
  if !esc && o = Config.escOctet then .escape
  else if !esc && o = Config.endOctet then .frameEnd
  else .data o

/-- The value of `flags.ESC` after a decoding step: 1 after an escape, 0 otherwise (R133). -/
def decEsc (esc : Bool) (o : Byte) : Bool := !esc && o = Config.escOctet

end Sys2Proof.Machine
end

