-- ==== Sys2Proof/Machine/Streams.lean ====
section
/-! DEFINITION. The pure functions of the CRC16 engine (40_crc.md) and of the byte-stuffing codec (41_codec.md). -/

namespace Sys2Proof.Machine

/-! ## CRC16 -/

/-- `CRC16.UPDATE` (R121): the five lines of its pseudocode. The shift constants 4, 12 and 5 are PRESUMED by the spec
itself from CRC-16/CCITT; unsafe (log 7). -/
def crcUpdate (crc : Word16) (octet : Byte) : Word16 :=
  let c1 := (crc >>> 8) ||| (crc <<< 8)
  let c2 := c1 ^^^ octet.zeroExtend 16
  let c3 := c2 ^^^ ((c2 &&& 0x00FF) >>> 4)
  let c4 := c3 ^^^ (c3 <<< 12)
  c4 ^^^ ((c4 &&& 0x00FF) <<< 5)

/-- One round of the bit-serial definition (R121). -/
def crcBit (c : Word16) : Word16 := if c.getLsbD 15 then (c <<< 1) ^^^ 0x1021 else c <<< 1

/-- The "equivalent bit-serial definition" of R121: eight rounds. Only statements use it. -/
def crcUpdateSerial (crc : Word16) (octet : Byte) : Word16 :=
  crcBit (crcBit (crcBit (crcBit (crcBit (crcBit (crcBit (crcBit (crc ^^^ (octet.zeroExtend 16 <<< 8)))))))))

/-- The CRC step folded over a sequence from a running value (R122, "incremental"). -/
def crcFold (crc : Word16) (s : List Byte) : Word16 := s.foldl crcUpdate crc

/-- `CRC16.FRAME` (R122). -/
def crcFrame (s : List Byte) : Word16 := crcFold Config.crcSeed s

/-- `CRC16.CHECK` (R123). -/
def crcCheck (b : List Byte) : Bool := crcFrame b = 0x0000

/-- `crc[15:8]`. -/
def crcHigh (crc : Word16) : Byte := crc.extractLsb' 8 8

/-- `crc[7:0]`. -/
def crcLow (crc : Word16) : Byte := crc.extractLsb' 0 8

/-- The CRC field, high octet first (30_encoding.md R94). -/
def crcField (crc : Word16) : List Byte := [crcHigh crc, crcLow crc]

/-! ## The codec -/

/-- `ENC` (R131). -/
def encOctet (o : Byte) : List Byte := if isReserved o then [Config.escOctet, o] else [o]

/-- `ENCSEQ` (R132). -/
def encOctets (s : List Byte) : List Byte := s.flatMap encOctet

/-- `DECSEQ` (R134) from a given escape flag: the octets, whether an unescaped `END` was met, the last escape flag. -/
def decOctetsFrom (esc : Bool) : List Byte → List Byte × Bool × Bool
  | [] => ([], false, esc)
  | o :: w =>
    if !esc && o = Config.escOctet then decOctetsFrom true w
    else if !esc && o = Config.endOctet then ([], true, false)
    else
      let r := decOctetsFrom false w
      (o :: r.1, r.2)

/-- `DECSEQ` (R134). -/
def decOctets (w : List Byte) : List Byte × Bool × Bool := decOctetsFrom false w

/-- `WIREFRAME` (R135). -/
def wireOctets (d : List Byte) : List Byte :=
  encOctets d ++ encOctets (crcField (crcFrame d)) ++ [Config.endOctet]

end Sys2Proof.Machine
end

