-- ==== Sys2Proof/Machine/Operands.lean ====
section
/-! DEFINITION. The operand forms: how a code names the present edge, the elements of a frame being sent (44_send.md
R206), and what `RECV` and the address filter compute from the receive registers (43_receive.md R185, R187, R192). -/

namespace Sys2Proof.Machine

/-! ## The elements of a frame (R206) -/

/-- `elem(k)` for a payload and a running CRC (R206). -/
def frameElem (payload : List Byte) (crc : Word16) (k : Nat) : Byte :=
  if k < payload.length then payload.getD k 0
  else if k = payload.length then crcHigh crc
  else if k = payload.length + 1 then crcLow crc
  else Config.endOctet

/-- The element the sequencer is at: `elem(tx_pos)` of a frame, or the operand of a `TXDATA` or `TXOCT` of its own. -/
def State.txElem (s : State) : Byte :=
  match s.txTask with
  | .send => frameElem s.txPayload s.txCrc s.txPos
  | .frame => frameElem s.txPayload s.txCrc s.txPos
  | .data c => c
  | .oct c => c

/-- Whether that element is escapable: of a frame the elements up to `n+1` (R206), the operand of `TXDATA` always
(R204), the operand of `TXOCT` never (R203). -/
def State.txEscapable (s : State) : Bool :=
  match s.txTask with
  | .send => s.txPos ≤ s.txPayload.length + 1
  | .frame => s.txPos ≤ s.txPayload.length + 1
  | .data _ => true
  | .oct _ => false

/-- `needs_esc(tx_pos)` (R206). -/
def State.txNeedsEsc (s : State) : Bool := s.txEscapable && isReserved s.txElem

/-- The octet a `TX_PUT` step writes (R206). -/
def State.txNextOctet (s : State) : Byte := if s.txNeedsEsc && !s.txSub then Config.escOctet else s.txElem

/-! ## The receive registers -/

/-- `frameSize` (R187). Subtracted only inside the window of `RECV`, where `rx_len >= MIN_FRAME` (40_crc.md R125). -/
def State.frameSize (s : State) : Nat := s.rxLen - Config.crcLen

/-- The window of `RECV` (R187): `flags.DIRTY`, `flags.END` and `rx_len >= MIN_FRAME`, outside which R192 applies. That
an `RX_COMPLETE` was emitted is not tested, for the block holds no such bit (log 11). -/
def State.recvWindow (s : State) : Bool := s.flags.dirty && s.flags.endSeen && Config.minFrame ≤ s.rxLen

/-- `AddressAccept` (R185): the multicast bit of the first octet, or the first six octets equal to `mac`. The header
layout is PRESUMED by the spec itself from Ethernet; unsafe (log 8). -/
def addressAccept (mac : Vector Byte 6) (octets : List Byte) : Bool :=
  (octets.getD 0 0).getLsbD 0 || octets.take Config.addrLen = mac.toList

/-- The number of an error, a symbolic positive parameter (00_scope.md R8, 92_eei_decisions.md D27); the operation answers
its negative. -/
def Errno.number : Errno → ℕ+
  | .enobufs => Config.enobufs
  | .eoverflow => Config.eoverflow

end Sys2Proof.Machine
end

