-- ==== Sys2Proof/Machine/Ops.lean ====
section
/-! DEFINITION. The shared operations: memory, output, timer, draws, the entry actions of the FSM (42_fsm.md R149 to
R153, R160), the reaction of the TX sequencer (44_send.md R212), and `Apply` (R141). `Apply` is the block's only form of
taking an exception and returning from it: 60_exceptions.md R263 (entry) and R264 (return). -/

namespace Sys2Proof.Machine

/-! ## Memory -/

/-- The canonical form: addresses strictly rising. -/
def Memory.wf : Memory → Bool
  | [] => true
  | [_] => true
  | c :: d :: m => decide (c.1 < d.1) && Memory.wf (d :: m)

/-- The octet written at an address, or none where nothing has been written (20_memory.md R61). -/
def Memory.read (m : Memory) (a : Nat) : Option Byte :=
  match m with
  | [] => none
  | c :: m => if c.1 = a then some c.2 else Memory.read m a

/-- Write one octet (R61), keeping the canonical form. -/
def Memory.write (m : Memory) (a : Nat) (o : Byte) : Memory :=
  match m with
  | [] => [(a, o)]
  | c :: m => if a < c.1 then (a, o) :: c :: m else if a = c.1 then (a, o) :: m else c :: Memory.write m a o

/-- Write a sequence of octets at rising addresses. -/
def Memory.writeAll (m : Memory) (a : Nat) (s : List Byte) : Memory :=
  match s with
  | [] => m
  | o :: s => Memory.writeAll (m.write a o) (a + 1) s

/-- The octet `rx_buf[a]` (10_state.md R28): the one written there, or the reset content, a free value (R45; log 10). -/
def State.rxOctet (s : State) (a : Nat) : Byte := (s.rxBuf.read a).getD (Config.rxBufReset a)

/-- Read one octet of `rx_buf` (R61). An index at or above `FRAME_LEN` does not exist (R63; log 10). -/
def State.readRx (s : State) (a : Nat) : Except Fault Byte :=
  if Config.frameLen ≤ a then .error (.outOfRange a) else .ok (s.rxOctet a)

/-- Read `n` octets of `rx_buf` from index `a` on. -/
def State.readRxFrom (s : State) (a : Nat) : Nat → Except Fault (List Byte)
  | 0 => .ok []
  | n + 1 =>
    match s.readRx a with
    | .error f => .error f
    | .ok o =>
      match s.readRxFrom (a + 1) n with
      | .error f => .error f
      | .ok l => .ok (o :: l)

/-! ## Output, results, timer, draws -/

/-- `emit E` (00_scope.md R12). -/
def State.emit (s : State) (e : OutEvent) : State := { s with trace := s.trace ++ [e] }

/-- An operation returns a value. -/
def State.answer (s : State) (r : OpResult) : State := { s with results := s.results ++ [r] }

/-- `arm(d)` (10_state.md R34). -/
def State.arm (s : State) (d : Nat) : State := { s with tmrArmed := true, tmrDur := d }

/-- A value of `[lo, hi)` that the environment chooses (00_scope.md R12 `draw`): the free value at a counter, brought
into the interval (log 5). -/
def drawIn (lo hi n : Nat) : Nat := lo + Config.backoffChoice n % (hi - lo)

/-- Back-off when arriving from `SEND`: `draw [T, 2*T)` (42_fsm.md R151). -/
def State.backoffSend (s : State) : Nat := drawIn s.timeoutTicks (2 * s.timeoutTicks) s.freeCtr

/-- Back-off when arriving from `RECV` or `UNDEF`: `draw [floor(T/10), T)` (R152). -/
def State.backoffShort (s : State) : Nat := drawIn (s.timeoutTicks / 10) s.timeoutTicks s.freeCtr

/-- The back-off by the state it arrives from (R151, R152). -/
def State.backoff (s : State) (origin : LinkState) : Nat :=
  if origin = .send then s.backoffSend else s.backoffShort

/-- One free value has been used. -/
def State.useFree (s : State) : State := { s with freeCtr := s.freeCtr + 1 }

/-! ## Buffer -/

/-- `CLEARRX` (43_receive.md R181): the content is not erased. -/
def State.clearBuffer (s : State) : State := { s with rxLen := 0, flags := Flags.clear }

/-- The data case of the `RECV` self-loop (42_fsm.md R157) but for the timer: clear `flags.ESC`, append unless dirty or
full. -/
def State.append (s : State) (o : Byte) : State :=
  if !s.flags.dirty && s.rxLen < Config.frameLen then
    { s with
      flags := { s.flags with esc := false }
      rxBuf := s.rxBuf.write s.rxLen o
      rxLen := s.rxLen + 1 }
  else { s with flags := { s.flags with esc := false } }

/-! ## Entry actions -/

/-- The part of `EnterBlocked` run first when arriving from `RECV` (R150). -/
def State.enterBlockedFromRecv (s : State) : State :=
  { s with flags := { s.flags with dirty := true, esc := false } }.emit .isrEvt

/-- The common part of `EnterBlocked` (R149): enable the GPIO interrupt, arm the back-off. -/
def State.enterBlockedCommon (s : State) (origin : LinkState) : State :=
  (({ s with gpioIrqEn := true }).arm (s.backoff origin)).useFree

/-- `EnterBlocked(from)` (R149). -/
def State.enterBlocked (s : State) (origin : LinkState) : State :=
  if origin = .recv then s.enterBlockedFromRecv.enterBlockedCommon origin else s.enterBlockedCommon origin

/-- `EnterRecvFresh` (R153). -/
def State.enterRecvFresh (s : State) : State := { s with gpioIrqEn := false }.arm s.timeoutTicks

/-- `EnterSend` (R160). -/
def State.enterSend (s : State) : State := { s with gpioIrqEn := false }.arm s.timeoutTicks

/-! ## The TX sequencer's registers -/

/-- `StartAttempt` (44_send.md R207). -/
def State.startAttempt (s : State) : State :=
  { s with txCrc := Config.crcSeed, txPos := 0, txSub := false, txPhase := .waitIdle }

/-- The sequencer's procedure returns a value: `tx_phase <- TX_OFF` (R212, R213). -/
def State.txReturn (s : State) (r : OpResult) : State := { s with txPhase := .off }.answer r

/-- `emit UART_TX(o)` and wait for its echo (R203, and phase `TX_PUT` of R206). -/
def State.putOctet (s : State) (o : Byte) : State :=
  { s with txExpect := o, txPhase := .waitEcho }.emit (.uartTx o)

/-- A collision (R212): `SEND` retries or returns 0 (R214, R215); the parts issued by themselves return the verdict
(R203 to R205). -/
def State.txCollide (s : State) (v : TxVerdict) : State :=
  match s.txTask with
  | .send =>
    if s.txRetries = 0 then s.txReturn (.sent 0)
    else { s with txRetries := s.txRetries - 1 }.startAttempt
  | .frame => s.txReturn (.verdict v)
  | .data _ => s.txReturn (.verdict v)
  | .oct _ => s.txReturn (.verdict v)

/-- The element of a frame was verified (R212, last case; R209). -/
def State.txAdvance (s : State) : State :=
  { s with
    txCrc := if s.txPos < s.txPayload.length then crcUpdate s.txCrc (s.txPayload.getD s.txPos 0) else s.txCrc
    txSub := false
    txPos := s.txPos + 1
    txPhase := if s.txPos + 1 ≤ s.txPayload.length + 2 then .put else .finish }

/-- The element itself was verified: a frame goes on (R212), a `TXDATA` or `TXOCT` of its own returns `OK` (R203,
R204). -/
def State.txVerified (s : State) : State :=
  match s.txTask with
  | .send => s.txAdvance
  | .frame => s.txAdvance
  | .data _ => { s with txSub := false }.txReturn (.verdict .ok)
  | .oct _ => s.txReturn (.verdict .ok)

/-- The echo reaction (R212), run when `TRANSITION(settled)` is emitted while the sequencer waits for an echo. -/
def State.echo (s : State) (settled : LinkState) : State :=
  if s.txPhase = .waitEcho then
    if settled ≠ .send then s.txCollide .collisionTimeout
    else if s.lastOctet ≠ s.txExpect then s.txCollide .collisionMismatch
    else if s.txNeedsEsc && !s.txSub then { s with txSub := true, txPhase := .put }
    else s.txVerified
  else s

/-! ## Apply -/

/-- The end of an accepted `Apply` (42_fsm.md R164, 60_exceptions.md R264): `emit TRANSITION(state)` once, then the
reaction of the waiting sequencer in the same atomic step (R212). -/
def State.settle (s : State) : State := (s.emit (.transition s.link)).echo s.link

/-- The `RECV`+`UART` edge by the verdict of `DEC(last_octet)` (R141, R155, R156, R157). -/
def State.recvOctet (s : State) : State :=
  match decVerdict s.flags.esc s.lastOctet with
  | .escape => { s with flags := { s.flags with esc := true } }.arm s.timeoutTicks
  | .frameEnd => { ({ s with flags := { s.flags with endSeen := true } }).enterBlocked .recv with link := .blocked }
  | .data o => (s.append o).arm s.timeoutTicks

/-- The ten edges of the transition table, before settling (R141, R142); none for a refused pair (R159). -/
def State.edge (s : State) (sig : Signal) : Option State :=
  match s.link, sig with
  | .undef, .init => some { s.enterBlocked .undef with link := .blocked }
  | .blocked, .xtimer => some { s with link := .idle }
  | .blocked, .gpio => some { s.enterRecvFresh with link := .recv }
  | .idle, .gpio => some { s.enterRecvFresh with link := .recv }
  | .idle, .send => some { s.enterSend with link := .send }
  | .recv, .uart => some s.recvOctet
  | .recv, .xtimer => some { s.enterBlocked .recv with link := .blocked }
  | .send, .uart => some s.enterSend
  | .send, .xtimer => some { s.enterBlocked .send with link := .blocked }
  | .send, .endTx => some { s.enterBlocked .send with link := .blocked }
  | _, _ => none

/-- `Apply(sig)` (R141): one atomic step. A refused pair changes nothing and emits nothing (R159). The returned state is
the field `link` of the result. -/
def State.apply (s : State) (sig : Signal) : State :=
  match s.edge sig with
  | some t => t.settle
  | none => s

/-- An edge named by its code (30_encoding.md R100): `Apply` of its signal in its state. In any other state the code is
not the present pair and, like every pair that is not an edge, it changes nothing (R101; log 16). -/
def State.applyAt (s : State) (at_ : LinkState) (sig : Signal) : State :=
  if s.link = at_ then s.apply sig else s

/-- The UART has received an octet (R143): `last_octet` is written in every state, then `Apply(UART)`. -/
def State.uartReceive (s : State) (o : Byte) : State := { s with lastOctet := o }.apply .uart

end Sys2Proof.Machine
end

