-- ==== Sys2Proof/Machine/Codec.lean ====
section
/-! DEFINITION. The codec rows (41_codec.md): the encoder and the whole-sequence functions are pure; `DEC` writes
`flags.ESC` and nothing else. -/

namespace Sys2Proof.Machine

/-- `ENC` (R131). -/
def execEnc (octet : Byte) (s : State) : Host.Outcome State Fault Refusal :=
  .next (s.answer (.octets (encOctet octet)))

/-- `ENCSEQ` (R132). -/
def execEncSeq (octets : List Byte) (s : State) : Host.Outcome State Fault Refusal :=
  .next (s.answer (.octets (encOctets octets)))

/-- `DEC` (R133): the verdict, and the new `flags.ESC`. -/
def execDec (octet : Byte) (s : State) : Host.Outcome State Fault Refusal :=
  .next ({ s with flags := { s.flags with esc := decEsc s.flags.esc octet } }.answer
    (.decoded (decVerdict s.flags.esc octet)))

/-- `DECSEQ` (R134). -/
def execDecSeq (octets : List Byte) (s : State) : Host.Outcome State Fault Refusal :=
  .next (s.answer (.decodedSeq (decOctets octets).1 (decOctets octets).2.1 (decOctets octets).2.2))

/-- `WIREFRAME` (R135). -/
def execWireFrame (data : List Byte) (s : State) : Host.Outcome State Fault Refusal :=
  .next (s.answer (.octets (wireOctets data)))

end Sys2Proof.Machine
end

