-- ==== Sys2Proof/Machine/Crc.lean ====
section
/-! DEFINITION. The CRC16 rows (40_crc.md): pure functions whose value is returned. -/

namespace Sys2Proof.Machine

/-- `CRC16.UPDATE` (R121). -/
def execCrc16Update (crc : Word16) (octet : Byte) (s : State) : Host.Outcome State Fault Refusal :=
  .next (s.answer (.crc (crcUpdate crc octet)))

/-- `CRC16.FRAME` (R122). -/
def execCrc16Frame (octets : List Byte) (s : State) : Host.Outcome State Fault Refusal :=
  .next (s.answer (.crc (crcFrame octets)))

/-- `CRC16.CHECK` (R123). -/
def execCrc16Check (octets : List Byte) (s : State) : Host.Outcome State Fault Refusal :=
  .next (s.answer (.check (crcCheck octets)))

end Sys2Proof.Machine
end

