-- ==== Sys2Proof/Machine/Edges.lean ====
section
/-! DEFINITION. The `EDGE8` rows: the ten edges of 30_encoding.md R100, each `Apply` of its signal in its state
(42_fsm.md R141), and the catch-all `REFUSED` (R101, R159). -/

namespace Sys2Proof.Machine

/-- `UNDEF.INIT`: `UNDEF`+`INIT` to `BLOCKED` (R147). -/
def execUndefInit (s : State) : Host.Outcome State Fault Refusal := .next (s.applyAt .undef .init)

/-- `BLOCKED.GPIO`: `BLOCKED`+`GPIO` to `RECV` (R153). -/
def execBlockedGpio (s : State) : Host.Outcome State Fault Refusal := .next (s.applyAt .blocked .gpio)

/-- `BLOCKED.XTIMER`: `BLOCKED`+`XTIMER` to `IDLE`; the edge itself does not touch the timer, `TIMERFIRE` has disarmed it before (R148). -/
def execBlockedXtimer (s : State) : Host.Outcome State Fault Refusal := .next (s.applyAt .blocked .xtimer)

/-- `IDLE.GPIO`: `IDLE`+`GPIO` to `RECV` (R154). -/
def execIdleGpio (s : State) : Host.Outcome State Fault Refusal := .next (s.applyAt .idle .gpio)

/-- `IDLE.SEND`: `IDLE`+`SEND` to `SEND` (R160). -/
def execIdleSend (s : State) : Host.Outcome State Fault Refusal := .next (s.applyAt .idle .send)

/-- `RECV.UART.ESC`: `RECV`+`UART` with an unescaped `ESC`; `flags.ESC` and `last_octet` select the sub-form, not the code (R100; log 17) (R155). -/
def execRecvUartEsc (s : State) : Host.Outcome State Fault Refusal := .next (s.applyAt .recv .uart)

/-- `RECV.UART.END`: `RECV`+`UART` with an unescaped `END` (R100; log 17) (R156). -/
def execRecvUartEnd (s : State) : Host.Outcome State Fault Refusal := .next (s.applyAt .recv .uart)

/-- `RECV.UART.DATA`: `RECV`+`UART` with a data octet (R100; log 17) (R157). -/
def execRecvUartData (s : State) : Host.Outcome State Fault Refusal := .next (s.applyAt .recv .uart)

/-- `RECV.XTIMER`: `RECV`+`XTIMER` to `BLOCKED` (R158). -/
def execRecvXtimer (s : State) : Host.Outcome State Fault Refusal := .next (s.applyAt .recv .xtimer)

/-- `SEND.UART`: the self-loop `SEND`+`UART` (R161). -/
def execSendUart (s : State) : Host.Outcome State Fault Refusal := .next (s.applyAt .send .uart)

/-- `SEND.XTIMER`: `SEND`+`XTIMER` to `BLOCKED` (R162). -/
def execSendXtimer (s : State) : Host.Outcome State Fault Refusal := .next (s.applyAt .send .xtimer)

/-- `SEND.END`: `SEND`+`END` to `BLOCKED` (R163). -/
def execSendEnd (s : State) : Host.Outcome State Fault Refusal := .next (s.applyAt .send .endTx)

/-- `REFUSED`: a code that is no edge, given by its two nibbles. Nothing changes, nothing is emitted (R101, R159). -/
def execRefused (_signal _state : BitVec 4) (s : State) : Host.Outcome State Fault Refusal := .next s

end Sys2Proof.Machine
end

