-- ==== Sys2Proof/Machine/Link.lean ====
section
/-! DEFINITION. The procedures of the FSM issued by themselves and the three steps of the environment (42_fsm.md). A
procedure issued by itself does what its rule says and no more (log 18). -/

namespace Sys2Proof.Machine

/-- `APPLY` (R141): apply a signal given by its code and return the settled state. `NONE` and the reserved codes are
refused (30_encoding.md R98): nothing changes. -/
def execApply (signal : BitVec 4) (s : State) : Host.Outcome State Fault Refusal :=
  match Signal.ofCode signal with
  | some sig => .next ((s.apply sig).answer (.link (s.apply sig).link))
  | none => .next (s.answer (.link s.link))

/-- `ENTER.BLOCKED` (R149): the entry actions; `state` is written by the edge, not here. -/
def execEnterBlocked (origin : LinkState) (s : State) : Host.Outcome State Fault Refusal :=
  .next (s.enterBlocked origin)

/-- `ENTER.BLOCKED.FROM_RECV` (R150). -/
def execEnterBlockedFromRecv (s : State) : Host.Outcome State Fault Refusal := .next s.enterBlockedFromRecv

/-- `BACKOFF.FROM_SEND` (R151): the drawn value is returned; arming is R149's. -/
def execBackoffFromSend (s : State) : Host.Outcome State Fault Refusal :=
  .next (s.answer (.backoff s.backoffSend)).useFree

/-- `BACKOFF.OTHER` (R152): the drawn value is returned; arming is R149's. -/
def execBackoffOther (s : State) : Host.Outcome State Fault Refusal :=
  .next (s.answer (.backoff s.backoffShort)).useFree

/-- `ENTER.RECV` (R153). -/
def execEnterRecv (s : State) : Host.Outcome State Fault Refusal := .next s.enterRecvFresh

/-- `ENTER.SEND` (R160). -/
def execEnterSend (s : State) : Host.Outcome State Fault Refusal := .next s.enterSend

/-- `UARTRX(o)` (R143). -/
def execUartRx (octet : Byte) (s : State) : Host.Outcome State Fault Refusal := .next (s.uartReceive octet)

/-- `GPIOFALL` (R144): a masked edge is discarded. -/
def execGpioFall (s : State) : Host.Outcome State Fault Refusal :=
  .next (if s.gpioIrqEn then s.apply .gpio else s)

/-- `TIMERFIRE` (R145, 10_state.md R35): enabled only while armed; otherwise nothing happens (log 18). -/
def execTimerFire (s : State) : Host.Outcome State Fault Refusal :=
  .next (if s.tmrArmed then { s with tmrArmed := false }.apply .xtimer else s)

end Sys2Proof.Machine
end

