-- ==== Sys2Proof/Machine/Receive.lean ====
section
/-! DEFINITION. The receive path: `CLEARRX`, `ISR` and the four forms of `RECV` (43_receive.md). -/

namespace Sys2Proof.Machine

/-- `CLEARRX` (R181). -/
def execClearRx (s : State) : Host.Outcome State Fault Refusal := .next s.clearBuffer

/-- The address filter passes: promiscuous mode skips it (R182, R185). -/
def State.addressPasses (s : State) (octets : List Byte) : Bool :=
  s.options.promisc || addressAccept s.mac octets

/-- The last two checks of `ISR` on the octets of the buffer (R185, R186), then success (R193) or a silent drop. -/
def State.validate (s : State) (octets : List Byte) : State :=
  if !s.addressPasses octets then s.clearBuffer
  else if !crcCheck octets then s.clearBuffer
  else s.emit .rxComplete

/-- `ISR` (R182): spurious, incomplete (R183), too short (R184), filtered (R185), bad CRC (R186), success (R193). The
buffer is read once, after the length check. -/
def execIsr (s : State) : Host.Outcome State Fault Refusal :=
  if !s.flags.dirty then .next s
  else if !s.flags.endSeen then .next s.clearBuffer
  else if s.rxLen < Config.minFrame then .next s.clearBuffer
  else
    match s.readRxFrom 0 s.rxLen with
    | .error f => .fault f
    | .ok octets => .next (s.validate octets)

/-- `RECV` with `buf = NULL` and `len = 0` inside the window (R188). -/
def State.recvQuery (s : State) : State := s.answer (.size s.frameSize)

/-- `RECV` with `buf = NULL` and `len > 0` inside the window (R189). -/
def State.recvDiscard (s : State) : State := s.clearBuffer.answer (.size s.frameSize)

/-- `RECV` with a buffer too small (R190): nothing is copied. -/
def State.recvTooSmall (s : State) : State := s.clearBuffer.answer (.negative .enobufs)

/-- `RECV` with a buffer large enough (R191): the octets without the CRC field go to the caller's buffer. -/
def State.recvCopied (s : State) (octets : List Byte) : State :=
  { s with callerBuf := s.callerBuf.writeAll 0 octets }.clearBuffer.answer (.size s.frameSize)

/-- `RECV` with a caller buffer of `len` octets (30_encoding.md R103): `len` against `frameSize` chooses `RECV.SHORT`
(R190) or `RECV.COPY` (R191). -/
def State.recvInto (s : State) (len : Nat) : Host.Outcome State Fault Refusal :=
  if len < s.frameSize then .next s.recvTooSmall
  else
    match s.readRxFrom 0 s.frameSize with
    | .error f => .fault f
    | .ok octets => .next (s.recvCopied octets)

/-- `RECV.SIZE` (R188); outside the window it has no meaning (R187, R192; log 11). -/
def execRecvSize (s : State) : Host.Outcome State Fault Refusal :=
  if s.recvWindow then .next s.recvQuery else .refused .recvOutsideWindow

/-- `RECV.DROP` (R189): "The value of `len` beyond being non-zero is ignored". -/
def execRecvDrop (_len : Nat) (s : State) : Host.Outcome State Fault Refusal :=
  if s.recvWindow then .next s.recvDiscard else .refused .recvOutsideWindow

/-- `RECV.SHORT` (R190). Where `len` is large enough the same call is `RECV.COPY` (R103; log 17). -/
def execRecvShort (len : Nat) (s : State) : Host.Outcome State Fault Refusal :=
  if s.recvWindow then s.recvInto len else .refused .recvOutsideWindow

/-- `RECV.COPY` (R191). Where `len` is too small the same call is `RECV.SHORT` (R103; log 17). -/
def execRecvCopy (len : Nat) (s : State) : Host.Outcome State Fault Refusal :=
  if s.recvWindow then s.recvInto len else .refused .recvOutsideWindow

end Sys2Proof.Machine
end

