-- ==== Sys2Proof/Machine/Send.lean ====
section
/-! DEFINITION. The send path: `SEND`, the sequencer's steps, and its parts issued by themselves (44_send.md). -/

namespace Sys2Proof.Machine

/-- Start a procedure of the sequencer if it is off; while it runs, another one has no meaning
(93_implementation_defined.md U4; log 12). -/
def State.startTx (s : State) (t : State) : Host.Outcome State Fault Refusal :=
  if s.txPhase = .off then .next t else .refused .senderBusy

/-- `SEND p` (R207): the step that starts the sequencer. -/
def execSend (payload : List Byte) (s : State) : Host.Outcome State Fault Refusal :=
  s.startTx { s with txTask := .send, txPayload := payload, txRetries := Config.maxRetries }.startAttempt

/-- `TXFRAME(p)` issued by itself (R205): one attempt, which returns a verdict (log 19). -/
def execTxFrame (payload : List Byte) (s : State) : Host.Outcome State Fault Refusal :=
  s.startTx { s with txTask := .frame, txPayload := payload }.startAttempt

/-- `TXDATA(c)` issued by itself (R204): write the escape octet or the octet, then wait for its echo (log 19). -/
def execTxData (octet : Byte) (s : State) : Host.Outcome State Fault Refusal :=
  s.startTx
    ({ s with txTask := .data octet, txSub := false }.putOctet
      (if isReserved octet then Config.escOctet else octet))

/-- `TXOCT(c)` issued by itself (R203): write the octet, then wait for its echo (log 19). -/
def execTxOct (octet : Byte) (s : State) : Host.Outcome State Fault Refusal :=
  s.startTx ({ s with txTask := .oct octet }.putOctet octet)

/-- What the sequencer returns when its last octet was verified: `SEND` the payload length (R213), `TXFRAME` the
verdict `OK` (R205). -/
def State.txDone (s : State) : OpResult :=
  match s.txTask with
  | .send => .sent s.txPayload.length
  | .frame => .verdict .ok
  | .data _ => .verdict .ok
  | .oct _ => .verdict .ok

/-- Phase `TX_REQUEST` (R206, R208): `Apply(SEND)`; a refusal costs no retry. -/
def State.txRequest (s : State) : State :=
  let t := s.apply .send
  { t with txPhase := if t.link = .send then .put else .waitIdle }

/-- One step of the sequencer (R206). A phase whose step is not enabled does nothing (log 18). -/
def State.txAct (s : State) : State :=
  match s.txPhase with
  | .off => s
  | .waitIdle => if s.link = .idle then { s with txPhase := .request } else s
  | .request => s.txRequest
  | .put => s.putOctet s.txNextOctet
  | .waitEcho => s
  | .finish => (s.apply .endTx).txReturn s.txDone

/-- `TXSTEP` (R206). -/
def execTxStep (s : State) : Host.Outcome State Fault Refusal := .next s.txAct

/-- `TXECHO` (R212): the reaction to `TRANSITION(settled)`; nothing while no echo is awaited. -/
def execTxEcho (settled : LinkState) (s : State) : Host.Outcome State Fault Refusal := .next (s.echo settled)

end Sys2Proof.Machine
end

