-- ==== Sys2Proof/Machine/Setup.lean ====
section
/-! DEFINITION. Initialisation and configuration: `INIT`, `GET`, `SET` (45_config.md). -/

namespace Sys2Proof.Machine

/-- `INIT` (R231): `state <- UNDEF`, the flags and `rx_len` cleared, `Apply(INIT)`, result 0 (R232). While the sequencer
runs it has the same effect (93_implementation_defined.md U4, "the effect follows from the rules"; log 13). -/
def execInit (s : State) : Host.Outcome State Fault Refusal :=
  .next (({ s.clearBuffer with link := .undef }.apply .init).answer (.status 0))

/-- `GET.ADDRESS` (R233): the six octets of `mac`; `maxLen < 6` has no meaning (log 14). -/
def execGetAddress (maxLen : Nat) (s : State) : Host.Outcome State Fault Refusal :=
  if maxLen < Config.addrLen then .refused .addressBufferShort else .next (s.answer (.address s.mac))

/-- `GET.PROMISCUOUSMODE` (R234). -/
def execGetPromiscuousMode (s : State) : Host.Outcome State Fault Refusal :=
  .next (s.answer (.promisc s.options.promisc))

/-- `GET.OTHER` (R236): delegated; the core does nothing. -/
def execGetOther (_option : Byte) (s : State) : Host.Outcome State Fault Refusal := .next (s.answer .delegated)

/-- Write `options.PROMISC` and return the status the spec does not state, a free value (R235; log 15). -/
def State.setPromisc (s : State) (b : Bool) : State :=
  ({ s with options := { promisc := b } }.answer (.status (Config.setStatus s.freeCtr))).useFree

/-- `SET.PROMISCUOUSMODE` (R235); a value that is neither enable nor disable has no meaning (log 14). -/
def execSetPromiscuousMode (value : PromiscArg) (s : State) : Host.Outcome State Fault Refusal :=
  match value with
  | .enable => .next (s.setPromisc true)
  | .disable => .next (s.setPromisc false)
  | .neither _ => .refused .promiscValue

/-- `SET.OTHER` (R236): delegated; the core does nothing. `ADDRESS` is among these options. -/
def execSetOther (_option : Byte) (_value : List Byte) (s : State) : Host.Outcome State Fault Refusal :=
  .next (s.answer .delegated)

end Sys2Proof.Machine
end

