-- ==== Sys2Proof/Machine/Wire.lean ====
section
/-! DEFINITION. The `WIRE8` rows: an octet of a class arrives on the wire (30_encoding.md R91, R96, 42_fsm.md R143,
R155 to R157). What the class means is decided by `state` and `flags.ESC` inside `Apply` (log 17). -/

namespace Sys2Proof.Machine

/-- `WIRE.ESC`: the octet 0xFE (R91, R155). -/
def execWireEsc (s : State) : Host.Outcome State Fault Refusal := .next (s.uartReceive Config.escOctet)

/-- `WIRE.END`: the octet 0xFF (R91, R156). -/
def execWireEnd (s : State) : Host.Outcome State Fault Refusal := .next (s.uartReceive Config.endOctet)

/-- `WIRE.DATA`: any other octet (R91, R157). -/
def execWireData (octet : Byte) (s : State) : Host.Outcome State Fault Refusal := .next (s.uartReceive octet)

end Sys2Proof.Machine
end

