-- ==== Sys2Proof/Machine/Dispatch.lean ====
section
/-! DEFINITION. One arm per operation of opcode_table.json, each one call of its meaning. -/

namespace Sys2Proof.Machine

def exec (i : Instr) (s : State) : Host.Outcome State Fault Refusal :=
  match i with
  | .wireEsc => Sys2Proof.Machine.execWireEsc s
  | .wireEnd => Sys2Proof.Machine.execWireEnd s
  | .wireData octet => Sys2Proof.Machine.execWireData octet s
  | .undefInit => Sys2Proof.Machine.execUndefInit s
  | .blockedGpio => Sys2Proof.Machine.execBlockedGpio s
  | .blockedXtimer => Sys2Proof.Machine.execBlockedXtimer s
  | .idleGpio => Sys2Proof.Machine.execIdleGpio s
  | .idleSend => Sys2Proof.Machine.execIdleSend s
  | .recvUartEsc => Sys2Proof.Machine.execRecvUartEsc s
  | .recvUartEnd => Sys2Proof.Machine.execRecvUartEnd s
  | .recvUartData => Sys2Proof.Machine.execRecvUartData s
  | .recvXtimer => Sys2Proof.Machine.execRecvXtimer s
  | .sendUart => Sys2Proof.Machine.execSendUart s
  | .sendXtimer => Sys2Proof.Machine.execSendXtimer s
  | .sendEnd => Sys2Proof.Machine.execSendEnd s
  | .refused signal state => Sys2Proof.Machine.execRefused signal state s
  | .init => Sys2Proof.Machine.execInit s
  | .send payload => Sys2Proof.Machine.execSend payload s
  | .isr => Sys2Proof.Machine.execIsr s
  | .recvSize => Sys2Proof.Machine.execRecvSize s
  | .recvDrop len => Sys2Proof.Machine.execRecvDrop len s
  | .recvShort len => Sys2Proof.Machine.execRecvShort len s
  | .recvCopy len => Sys2Proof.Machine.execRecvCopy len s
  | .getAddress maxLen => Sys2Proof.Machine.execGetAddress maxLen s
  | .getPromiscuousMode => Sys2Proof.Machine.execGetPromiscuousMode s
  | .getOther option => Sys2Proof.Machine.execGetOther option s
  | .setPromiscuousMode value => Sys2Proof.Machine.execSetPromiscuousMode value s
  | .setOther option value => Sys2Proof.Machine.execSetOther option value s
  | .crc16Update crc octet => Sys2Proof.Machine.execCrc16Update crc octet s
  | .crc16Frame octets => Sys2Proof.Machine.execCrc16Frame octets s
  | .crc16Check octets => Sys2Proof.Machine.execCrc16Check octets s
  | .enc octet => Sys2Proof.Machine.execEnc octet s
  | .encSeq octets => Sys2Proof.Machine.execEncSeq octets s
  | .dec octet => Sys2Proof.Machine.execDec octet s
  | .decSeq octets => Sys2Proof.Machine.execDecSeq octets s
  | .wireFrame data => Sys2Proof.Machine.execWireFrame data s
  | .apply signal => Sys2Proof.Machine.execApply signal s
  | .enterBlocked origin => Sys2Proof.Machine.execEnterBlocked origin s
  | .enterBlockedFromRecv => Sys2Proof.Machine.execEnterBlockedFromRecv s
  | .backoffFromSend => Sys2Proof.Machine.execBackoffFromSend s
  | .backoffOther => Sys2Proof.Machine.execBackoffOther s
  | .enterRecv => Sys2Proof.Machine.execEnterRecv s
  | .enterSend => Sys2Proof.Machine.execEnterSend s
  | .clearRx => Sys2Proof.Machine.execClearRx s
  | .txOct octet => Sys2Proof.Machine.execTxOct octet s
  | .txData octet => Sys2Proof.Machine.execTxData octet s
  | .txFrame payload => Sys2Proof.Machine.execTxFrame payload s
  | .txStep => Sys2Proof.Machine.execTxStep s
  | .txEcho settled => Sys2Proof.Machine.execTxEcho settled s
  | .uartRx octet => Sys2Proof.Machine.execUartRx octet s
  | .gpioFall => Sys2Proof.Machine.execGpioFall s
  | .timerFire => Sys2Proof.Machine.execTimerFire s

end Sys2Proof.Machine
end

