-- ==== Sys2Proof/Machine/Step.lean ====
section
/-! DEFINITION. One step of the block: the next operation of the total order (00_scope.md R11). -/

namespace Sys2Proof.Machine

/-- One step. The oldest entry of `pending` is decoded and executed, and is gone from `pending`. With nothing pending no
agent moves and the state stays (log 1). A packet that names no operation is refused by name (log 2). -/
def step (s : State) : Host.Outcome State Fault Refusal :=
  match s.pending with
  | [] => .next s
  | packet :: rest =>
    match decode packet with
    | .ok i => exec i { s with pending := rest }
    | .error e => .refused (.undecodable e)

/-- `s` with the packet of a table word as the next operation (log 1). -/
def State.withFetchWord (s : State) (nbits w : Nat) : State :=
  { s with pending := tablePacket nbits w :: s.pending }

end Sys2Proof.Machine
end

