-- ==== Sys2Proof/Safety.lean ====
section
/-! DEFINITION. What counts as a safe state and a safe run, in the terms the statements use: the invariants of
10_state.md R44, the memory's form (20_memory.md R63, R64), the sequencer's invariant (44_send.md R206 to R212, R217),
and running a list of operations in the total order of 00_scope.md R11. -/

namespace Sys2Proof.Machine

/-! ## Outcomes -/

/-- The machine does not stop with a fault. -/
abbrev NoFault (o : Host.Outcome State Fault Refusal) : Prop := ∀ f, o ≠ .fault f

/-- Run operations one after the other, stopping at the first fault or refusal (the traces of 30_encoding.md R105). -/
def execAll : List Instr → State → Host.Outcome State Fault Refusal
  | [], s => .next s
  | i :: l, s =>
    match exec i s with
    | .next t => execAll l t
    | .fault f => .fault f
    | .refused r => .refused r

/-! ## The wire -/

/-- Which octets of an encoded sequence are lead octets of an escape (41_codec.md R136 (b)): read from the left, an
`ESC` leads the octet after it. -/
def leadMarks : List Byte → List Bool
  | [] => []
  | [o] => [o = Config.escOctet]
  | o :: p :: w => if o = Config.escOctet then true :: false :: leadMarks w else false :: leadMarks (p :: w)

/-- The operations by which the octet `o` reaches the UART: the `WIRE8` row of its class, or `UARTRX` (R91, R143). -/
def Arrives (i : Instr) (o : Byte) : Prop :=
  (i = .wireEsc ∧ o = Config.escOctet) ∨ (i = .wireEnd ∧ o = Config.endOctet) ∨ i = .wireData o ∨ i = .uartRx o

/-- The ten edges (42_fsm.md R142) with the row that names each; `RECV`+`UART` has three rows. -/
def edgeRows : List (LinkState × Signal × Instr) :=
  [(.undef, .init, .undefInit), (.blocked, .gpio, .blockedGpio), (.blocked, .xtimer, .blockedXtimer),
   (.idle, .gpio, .idleGpio), (.idle, .send, .idleSend), (.recv, .uart, .recvUartEsc),
   (.recv, .uart, .recvUartEnd), (.recv, .uart, .recvUartData), (.recv, .xtimer, .recvXtimer),
   (.send, .uart, .sendUart), (.send, .xtimer, .sendXtimer), (.send, .endTx, .sendEnd)]

/-- The (state, signal) pairs of the ten edges. -/
def edgePairs : List (LinkState × Signal) := edgeRows.map fun r => (r.1, r.2.1)

/-- The settled states of the `TRANSITION` events in a piece of trace (42_fsm.md R164). -/
def transitions (l : List OutEvent) : List LinkState :=
  l.filterMap fun
    | .transition st => some st
    | _ => none

/-! ## The receive memory -/

/-- Both memories are in canonical form and `rx_buf` lists no address outside it (R60). -/
abbrev MemoryOk (s : State) : Prop :=
  s.rxBuf.wf = true ∧ (∀ c ∈ s.rxBuf, c.1 < Config.frameLen) ∧ s.callerBuf.wf = true

/-- `rx_len` is in its range (R44 (b)) and every octet below it has been written (R64). -/
abbrev BufferOk (s : State) : Prop :=
  s.rxLen ≤ Config.frameLen ∧ ∀ a < s.rxLen, (s.rxBuf.read a).isSome = true

/-- The octets of `rx_buf[0 .. rx_len-1]` are `l`, whether they have been written or are the reset content. -/
def BufferHolds (s : State) (l : List Byte) : Prop :=
  s.rxLen = l.length ∧ l.length ≤ Config.frameLen ∧ ∀ a < l.length, some (s.rxOctet a) = l[a]?

/-! ## The FSM's invariants -/

/-- R44 (d) and (e): the timer is armed exactly in `BLOCKED`, `RECV`, `SEND`; the GPIO mask is open exactly in
`BLOCKED` and `IDLE`. -/
abbrev TimerMaskOk (s : State) : Prop :=
  (s.tmrArmed = true ↔ (s.link = .blocked ∨ s.link = .recv ∨ s.link = .send)) ∧
  (s.gpioIrqEn = true ↔ (s.link = .blocked ∨ s.link = .idle))

/-- R44 (c): clean and not receiving means an empty buffer and no flag. -/
abbrev CleanOk (s : State) : Prop :=
  s.flags.dirty = false → s.link ≠ .recv → s.rxLen = 0 ∧ s.flags.endSeen = false ∧ s.flags.esc = false

/-- `T >= 1` (R31). -/
abbrev TicksOk (s : State) : Prop := 1 ≤ s.timeoutTicks

/-- The operations that are a part of another agent's step and break a step's pairing of the timer and the mask with
`state` when they are issued by themselves: the bare `APPLY`, the edge `BLOCKED`+`XTIMER` without the expiry that
disarms the timer, and the entry actions without the edge that writes `state` (log 18). -/
def isFragment : Instr → Bool
  | .blockedXtimer | .apply _ | .enterBlocked _ | .enterRecv | .enterSend => true
  | _ => false

/-! ## The sequencer's invariant -/

/-- The octets written to the UART so far (44_send.md R201). -/
def State.uartOctets (s : State) : List Byte :=
  s.trace.filterMap fun
    | .uartTx o => some o
    | _ => none

/-- The wire form of each element of the frame `p` (R206): data and CRC octets encoded, `END` bare. -/
def wireElems (p : List Byte) : List (List Byte) :=
  (p ++ crcField (crcFrame p)).map encOctet ++ [[Config.endOctet]]

/-- The wire octets of the first `k` elements. -/
def wireUpTo (p : List Byte) (k : Nat) : List Byte := ((wireElems p).take k).flatten

/-- What the current attempt has put on the wire: the elements before `tx_pos`, the escape octet already verified, and
the octet whose echo is awaited. -/
def State.attemptOctets (s : State) : List Byte :=
  wireUpTo s.txPayload s.txPos ++ (if s.txSub then [Config.escOctet] else []) ++
    (if s.txPhase = .waitEcho then [s.txExpect] else [])

/-- The registers of a frame in progress (R206, R209, R210): the position is in range, `tx_crc` is the CRC of the payload
octets verified so far, a verified escape octet belongs to an element that needs one, the awaited octet is the one the
phase `TX_PUT` wrote, and the attempt's octets are the last ones written to the UART. -/
def FrameOk (s : State) : Prop :=
  match s.txPhase with
  | .off => True
  | .waitIdle => s.txPos = 0 ∧ s.txCrc = Config.crcSeed ∧ s.txSub = false
  | .request => s.txPos = 0 ∧ s.txCrc = Config.crcSeed ∧ s.txSub = false
  | .put =>
    s.txPos ≤ s.txPayload.length + 2 ∧ s.txCrc = crcFrame (s.txPayload.take s.txPos) ∧
      (s.txSub = true → s.txNeedsEsc = true) ∧ s.attemptOctets <:+ s.uartOctets
  | .waitEcho =>
    s.txPos ≤ s.txPayload.length + 2 ∧ s.txCrc = crcFrame (s.txPayload.take s.txPos) ∧
      (s.txSub = true → s.txNeedsEsc = true) ∧ s.txExpect = s.txNextOctet ∧ s.attemptOctets <:+ s.uartOctets
  | .finish =>
    s.txPos = s.txPayload.length + 3 ∧ s.txCrc = crcFrame s.txPayload ∧ wireOctets s.txPayload <:+ s.uartOctets

/-- The sequencer's invariant: retries in range, and the registers of the procedure that runs. -/
def TxOk (s : State) : Prop :=
  s.txRetries ≤ Config.maxRetries ∧
  match s.txTask with
  | .send => FrameOk s
  | .frame => FrameOk s
  | .data _ => s.txPhase = .off ∨ s.txPhase = .waitEcho ∨ (s.txPhase = .put ∧ s.txSub = true)
  | .oct _ => s.txPhase = .off ∨ s.txPhase = .waitEcho

/-! ## What cannot be seen -/

/-- Two states that differ at most in octets of `rx_buf` at or above `rx_len` (R64: "unobservable"). -/
def SameBelow (s t : State) : Prop :=
  t = { s with rxBuf := t.rxBuf } ∧ ∀ a < s.rxLen, t.rxOctet a = s.rxOctet a

/-- Two outcomes that an observer of everything but the octets above `rx_len` cannot tell apart. -/
def SameOutcome : Host.Outcome State Fault Refusal → Host.Outcome State Fault Refusal → Prop
  | .next s, .next t => SameBelow s t
  | .fault f, .fault g => f = g
  | .refused r, .refused q => r = q
  | _, _ => False

end Sys2Proof.Machine
end

