-- ==== Sys2Proof/Certificates/Slice0/Obligations.lean ====
section
/-! DEFINITION. The statements for the provers. Each names the rules of spec/ it formalises. -/

open Sys2Proof Sys2Proof.Machine

/-! ## Encodings and the step -/

/-- Every well-formed operation is read back from its packet, with every operand at every value (30_encoding.md R90,
R91, R100, R101, R103; the packet layout is the model's, log 2). -/
def Obligations.DecodeReadsBackEncode : Prop :=
  ∀ i : Instr, i.wf = true → decode (encode i) = .ok i

/-- The decoder names only well-formed operations: no catch-all row takes a code of another row of its format (R91,
R101, R107), no option or length is out of place. The option numbers and the 32-bit lengths that `wf` holds, like the
packets themselves, are the model's choice (log 2). -/
def Obligations.DecodedOperationsAreWellFormed : Prop :=
  ∀ (l : List Byte) (i : Instr), decode l = .ok i → i.wf = true

/-- Words of opcode_table.json read as the rows they match (R91, R100, R103). That a bare word is read by the merged
table (`0x11` as `UNDEF.INIT`, not as a data octet), that `0x04` without operands is `RECV.SIZE`, and the format octet
of the last three clauses are the model's choice (log 2). -/
def Obligations.TableWordsDecodeToTheirRows : Prop :=
  decodeTableWord 8 0xFE = some .wireEsc ∧ decodeTableWord 8 0xFF = some .wireEnd ∧
  decodeTableWord 8 0x41 = some (.wireData 0x41) ∧ decodeTableWord 8 0x11 = some .undefInit ∧
  decodeTableWord 8 0x42 = some .blockedXtimer ∧ decodeTableWord 8 0x65 = some .sendEnd ∧
  decodeTableWord 8 0x01 = some .init ∧ decodeTableWord 8 0x03 = some .isr ∧
  decodeTableWord 8 0x04 = some .recvSize ∧ decode [0x12, 2] = .ok (.refused 0x1 0x2) ∧
  decode [0x01, 2] = .ok (.refused 0x0 0x1) ∧ decode [0x11, 1] = .ok (.wireData 0x11)

/-- The table of edge codes (R100) and the FSM's edges (42_fsm.md R142) are the same ten pairs, whatever the other
registers hold; the other 20 are refused (R101). -/
def Obligations.EdgeCodesNameTheEdges : Prop :=
  ∀ (s : State) (sig : Signal), (s.edge sig).isSome = true ↔ edgeCode sig.code s.link.code ∈ edgeCodes

/-- A step runs the operation its next packet names, and takes the packet away. The last two clauses are the model's
choices: with nothing pending the state stays (log 1), and a packet that names no operation is refused by name (log 2). -/
def Obligations.StepRunsDecodedOperation : Prop :=
  (∀ (s : State) (packet : List Byte) (rest : List (List Byte)) (i : Instr),
    s.pending = packet :: rest → decode packet = .ok i →
      i.wf = true → step s = exec i { s with pending := rest }) ∧
  (∀ s : State, s.pending = [] → step s = .next s) ∧
  ∀ (s : State) (packet : List Byte) (rest : List (List Byte)) (e : DecodeError),
    s.pending = packet :: rest → decode packet = .error e → step s = .refused (.undecodable e)

/-! ## CRC16 and the codec -/

/-- The residue law (40_crc.md R124), and that it fails in the other byte order. -/
def Obligations.CrcResidueIsZero : Prop :=
  (∀ l : List Byte, crcFrame (l ++ [crcHigh (crcFrame l), crcLow (crcFrame l)]) = 0x0000) ∧
  ∃ l : List Byte, crcFrame (l ++ [crcLow (crcFrame l), crcHigh (crcFrame l)]) ≠ 0x0000

/-- The CRC rows return their value and change nothing else (R121, R122, R123). The value is given by the bit-serial
definition of R121, so the byte-wise step of its pseudocode, which the model runs, must equal it. -/
def Obligations.CrcOperationsReturnTheirValue : Prop :=
  ∀ s : State,
    (∀ (crc : Word16) (o : Byte),
      exec (.crc16Update crc o) s = .next { s with results := s.results ++ [.crc (crcUpdateSerial crc o)] }) ∧
    (∀ l : List Byte,
      exec (.crc16Frame l) s = .next { s with results := s.results ++ [.crc (l.foldl crcUpdateSerial 0xFFFF)] }) ∧
    ∀ l : List Byte,
      exec (.crc16Check l) s =
        .next { s with results := s.results ++ [.check (decide (l.foldl crcUpdateSerial 0xFFFF = 0x0000))] }

/-- The laws of the codec (41_codec.md R136): (a) the round trip, (b) no bare reserved octet, (c) whole frames, and
that the converse fails. -/
def Obligations.EscapeRoundTrip : Prop :=
  (∀ l : List Byte, decOctets (encOctets l) = (l, false, false)) ∧
  (∀ (l : List Byte) (k : Nat),
    ((encOctets l)[k]? = some 0xFF → ∃ j, k = j + 1 ∧ (encOctets l)[j]? = some 0xFE ∧
        (leadMarks (encOctets l))[j]? = some true) ∧
    ((encOctets l)[k]? = some 0xFE → (leadMarks (encOctets l))[k]? = some true ∨
        ∃ j, k = j + 1 ∧ (encOctets l)[j]? = some 0xFE ∧ (leadMarks (encOctets l))[j]? = some true)) ∧
  (∀ d : List Byte,
    decOctets (wireOctets d) = (d ++ [crcHigh (crcFrame d), crcLow (crcFrame d)], true, false) ∧
    ∃ w : List Byte, wireOctets d = w ++ [0xFF] ∧
      ∀ k : Nat, w[k]? = some 0xFF → ∃ j, k = j + 1 ∧ (leadMarks w)[j]? = some true) ∧
  ∃ w : List Byte, encOctets (decOctets w).1 ≠ w

/-- The codec rows return their value; only `DEC` writes a register, `flags.ESC` (R131 to R135). The value of `DECSEQ`
is R134's loop over all of the sequence, with its three cases and the stop at `ended`, written out. -/
def Obligations.CodecOperationsReturnTheirValue : Prop :=
  ∀ s : State,
    (∀ o : Byte, exec (.enc o) s =
      .next { s with results := s.results ++ [.octets (if o = 0xFF ∨ o = 0xFE then [0xFE, o] else [o])] }) ∧
    (∀ l : List Byte, exec (.encSeq l) s = .next { s with results :=
        s.results ++ [.octets (l.flatMap fun o => if o = 0xFF ∨ o = 0xFE then [0xFE, o] else [o])] } ∧
      (encOctets l).length = l.length + l.countP (fun o => o = 0xFF ∨ o = 0xFE)) ∧
    (∀ (w : List Byte) (r : List Byte × Bool × Bool),
      r = w.foldl (fun (a : List Byte × Bool × Bool) o =>
          if a.2.1 = true then a
          else if a.2.2 = false ∧ o = 0xFE then (a.1, false, true)
          else if a.2.2 = false ∧ o = 0xFF then (a.1, true, false)
          else (a.1 ++ [o], false, false)) ([], false, false) →
      exec (.decSeq w) s = .next { s with results := s.results ++ [.decodedSeq r.1 r.2.1 r.2.2] }) ∧
    (∀ d : List Byte, exec (.wireFrame d) s =
      .next { s with results := s.results ++
        [.octets (encOctets d ++ encOctets [crcHigh (crcFrame d)] ++ encOctets [crcLow (crcFrame d)] ++ [0xFF])] }) ∧
    (s.flags.esc = false → exec (.dec 0xFE) s =
      .next { s with flags := { s.flags with esc := true }, results := s.results ++ [.decoded .escape] }) ∧
    (s.flags.esc = false → exec (.dec 0xFF) s = .next { s with results := s.results ++ [.decoded .frameEnd] }) ∧
    ∀ o : Byte, (s.flags.esc = true ∨ (o ≠ 0xFE ∧ o ≠ 0xFF)) → exec (.dec o) s =
      .next { s with flags := { s.flags with esc := false }, results := s.results ++ [.decoded (.data o)] }

/-! ## The edges -/

/-- Back-off draws lie in their intervals (42_fsm.md R151, R152). That the two rows issued by themselves return the draw
and arm nothing is the model's reading (log 18). -/
def Obligations.BackoffDrawsInTheirIntervals : Prop :=
  ∀ s : State, TicksOk s →
    (∃ b, s.timeoutTicks ≤ b ∧ b < 2 * s.timeoutTicks ∧ exec .backoffFromSend s =
      .next { s with results := s.results ++ [.backoff b], freeCtr := s.freeCtr + 1 }) ∧
    ∃ b, s.timeoutTicks / 10 ≤ b ∧ b < s.timeoutTicks ∧ exec .backoffOther s =
      .next { s with results := s.results ++ [.backoff b], freeCtr := s.freeCtr + 1 }

/-- Edge `UNDEF`+`INIT` (R147). -/
def Obligations.InitEdgeEntersBlocked : Prop :=
  ∀ s : State, s.link = .undef → TicksOk s →
    ∃ b, s.timeoutTicks / 10 ≤ b ∧ b < s.timeoutTicks ∧ exec .undefInit s =
      .next ({ s with link := .blocked, gpioIrqEn := true, tmrArmed := true, tmrDur := b,
                      freeCtr := s.freeCtr + 1 } : State).settle

/-- Edge `BLOCKED`+`XTIMER` (R148), by its row and by the timer's expiry (R145). -/
def Obligations.BackoffExpiryEntersIdle : Prop :=
  ∀ s : State, s.link = .blocked →
    exec .blockedXtimer s = .next ({ s with link := .idle } : State).settle ∧
    (s.tmrArmed = true →
      exec .timerFire s = .next ({ s with link := .idle, tmrArmed := false } : State).settle)

/-- Edges `BLOCKED`+`GPIO` and `IDLE`+`GPIO`, by their rows and by a falling edge that the mask lets through (R153,
R154, R144). -/
def Obligations.FallingEdgeEntersReception : Prop :=
  ∀ (s : State) (i : Instr),
    (i = .blockedGpio ∧ s.link = .blocked) ∨ (i = .idleGpio ∧ s.link = .idle) ∨
      (i = .gpioFall ∧ s.gpioIrqEn = true ∧ (s.link = .blocked ∨ s.link = .idle)) →
    exec i s = .next ({ s with link := .recv, gpioIrqEn := false, tmrArmed := true,
                               tmrDur := s.timeoutTicks } : State).settle

/-- A masked falling edge is discarded and one in a state without a `GPIO` edge is refused (R144, R159); an expiry in a
state without an `XTIMER` edge only disarms (10_state.md R35, R159); a timer that is not armed does not fire (the model's
choice for a step that is not enabled, log 18). -/
def Obligations.SourcesWithoutAnEdge : Prop :=
  ∀ s : State,
    ((s.gpioIrqEn = false ∨ s.link = .undef ∨ s.link = .recv ∨ s.link = .send) → exec .gpioFall s = .next s) ∧
    (s.tmrArmed = true → s.link = .undef ∨ s.link = .idle →
      exec .timerFire s = .next { s with tmrArmed := false }) ∧
    (s.tmrArmed = false → exec .timerFire s = .next s)

/-- An unescaped `ESC` in `RECV`, also while dirty (R155). -/
def Obligations.EscapeOctetInReception : Prop :=
  ∀ (s : State) (i : Instr), s.link = .recv → s.flags.esc = false →
    (Arrives i 0xFE ∨ (i = .recvUartEsc ∧ s.lastOctet = 0xFE)) →
    exec i s = .next ({ s with lastOctet := 0xFE, flags := { s.flags with esc := true }, tmrArmed := true,
                               tmrDur := s.timeoutTicks } : State).settle

/-- An unescaped `END` in `RECV`, also while dirty (R156). -/
def Obligations.EndOctetInReception : Prop :=
  ∀ (s : State) (i : Instr), s.link = .recv → s.flags.esc = false → TicksOk s →
    (Arrives i 0xFF ∨ (i = .recvUartEnd ∧ s.lastOctet = 0xFF)) →
    ∃ b, s.timeoutTicks / 10 ≤ b ∧ b < s.timeoutTicks ∧
      exec i s = .next ({ s with lastOctet := 0xFF, flags := { dirty := true, endSeen := true, esc := false },
                                 trace := s.trace ++ [.isrEvt], link := .blocked, gpioIrqEn := true,
                                 tmrArmed := true, tmrDur := b, freeCtr := s.freeCtr + 1 } : State).settle

/-- A data octet in `RECV`: appended unless dirty or full, and in either case the escape flag is cleared and the timer
re-armed (R157). -/
def Obligations.DataOctetInReception : Prop :=
  ∀ (s : State) (i : Instr) (o : Byte), s.link = .recv → (s.flags.esc = true ∨ (o ≠ 0xFE ∧ o ≠ 0xFF)) →
    (Arrives i o ∨ (i = .recvUartData ∧ s.lastOctet = o)) →
    ∃ (m : Memory) (n : Nat),
      exec i s = .next ({ s with lastOctet := o, flags := { s.flags with esc := false }, rxBuf := m, rxLen := n,
                                 tmrArmed := true, tmrDur := s.timeoutTicks } : State).settle ∧
      (s.flags.dirty = false ∧ s.rxLen < 1516 →
        n = s.rxLen + 1 ∧ m.read s.rxLen = some o ∧ ∀ a, a ≠ s.rxLen → m.read a = s.rxBuf.read a) ∧
      (s.flags.dirty = true ∨ 1516 ≤ s.rxLen → n = s.rxLen ∧ m = s.rxBuf)

/-- The time-out in `RECV` (R158): dirty without `END` set by this edge. -/
def Obligations.TimeoutInReception : Prop :=
  ∀ (s : State) (i : Instr), s.link = .recv → TicksOk s →
    (i = .recvXtimer ∨ (i = .timerFire ∧ s.tmrArmed = true)) →
    ∃ b, s.timeoutTicks / 10 ≤ b ∧ b < s.timeoutTicks ∧
      exec i s = .next ({ s with flags := { s.flags with dirty := true, esc := false },
                                 trace := s.trace ++ [.isrEvt], link := .blocked, gpioIrqEn := true,
                                 tmrArmed := true, tmrDur := b, freeCtr := s.freeCtr + 1 } : State).settle

/-- Edge `IDLE`+`SEND` (R160). -/
def Obligations.SendRequestEntersSend : Prop :=
  ∀ s : State, s.link = .idle →
    exec .idleSend s = .next ({ s with link := .send, gpioIrqEn := false, tmrArmed := true,
                                       tmrDur := s.timeoutTicks } : State).settle

/-- The self-loop `SEND`+`UART`: no octet is decoded or stored, the time-out is re-armed (R161). -/
def Obligations.OctetInSendIsNotDecoded : Prop :=
  ∀ (s : State) (i : Instr) (o : Byte), s.link = .send →
    (Arrives i o ∨ (i = .sendUart ∧ s.lastOctet = o)) →
    exec i s = .next ({ s with lastOctet := o, gpioIrqEn := false, tmrArmed := true,
                               tmrDur := s.timeoutTicks } : State).settle

/-- The two ways out of `SEND`, with the long back-off and no flag changed (R162, R163). -/
def Obligations.SendIsLeftWithTheLongBackoff : Prop :=
  ∀ (s : State) (i : Instr), s.link = .send → TicksOk s →
    (i = .sendXtimer ∨ i = .sendEnd ∨ (i = .timerFire ∧ s.tmrArmed = true)) →
    ∃ b, s.timeoutTicks ≤ b ∧ b < 2 * s.timeoutTicks ∧
      exec i s = .next ({ s with link := .blocked, gpioIrqEn := true, tmrArmed := true, tmrDur := b,
                                 freeCtr := s.freeCtr + 1 } : State).settle

/-- An octet in `UNDEF`, `BLOCKED` or `IDLE` leaves nothing but `last_octet` (R143, R159). -/
def Obligations.OctetOutsideAFrameIsDropped : Prop :=
  ∀ (s : State) (i : Instr) (o : Byte), (s.link = .undef ∨ s.link = .blocked ∨ s.link = .idle) → Arrives i o →
    exec i s = .next { s with lastOctet := o }

/-- Every (state, signal) pair that is not one of the ten edges changes nothing and emits nothing, and so does the row
`REFUSED` (R159, R101). -/
def Obligations.RefusedPairsChangeNothing : Prop :=
  (∀ (s : State) (sig : Signal), (s.link, sig) ∉ edgePairs → s.apply sig = s ∧
    exec (.apply sig.code) s = .next { s with results := s.results ++ [.link s.link] }) ∧
  ∀ (s : State) (a b : BitVec 4), exec (.refused a b) s = .next s

/-- `APPLY` (R141): for each of the ten edges it does what the edge's row does, and returns the settled state; a code
that is no signal is refused (30_encoding.md R98). -/
def Obligations.ApplyRunsTheEdge : Prop :=
  (∀ (s : State) (r : LinkState × Signal × Instr), r ∈ edgeRows → s.link = r.1 →
    ∃ t, exec r.2.2 s = .next t ∧
      exec (.apply r.2.1.code) s = .next { t with results := t.results ++ [.link t.link] }) ∧
  ∀ (s : State) (c : BitVec 4), (∀ sig : Signal, sig.code ≠ c) →
    exec (.apply c) s = .next { s with results := s.results ++ [.link s.link] }

/-- The model's reading of the rows that share a code: an edge code whose state is not the present one changes nothing
(log 16); the three rows of edge code 0x34, and the two `RECV` rows with a buffer, have one effect, chosen by registers
and operands and not by the row's name (log 17). -/
def Obligations.RowsOfOneCodeAreOneOperation : Prop :=
  (∀ (s : State) (r : LinkState × Signal × Instr), r ∈ edgeRows → s.link ≠ r.1 → exec r.2.2 s = .next s) ∧
  ∀ (s : State) (len : Nat),
    exec .recvUartEsc s = exec .recvUartData s ∧ exec .recvUartEnd s = exec .recvUartData s ∧
    exec (.recvShort len) s = exec (.recvCopy len) s

/-- The entry actions issued by themselves (R149, R150, R153, R160). That they write no `state` when no edge runs them is
the model's reading (log 18). -/
def Obligations.EntryActions : Prop :=
  ∀ s : State, TicksOk s →
    (∀ origin : LinkState, ∃ b,
      (if origin = .send then s.timeoutTicks ≤ b ∧ b < 2 * s.timeoutTicks
        else s.timeoutTicks / 10 ≤ b ∧ b < s.timeoutTicks) ∧
      exec (.enterBlocked origin) s =
        .next { s with flags := if origin = .recv then { s.flags with dirty := true, esc := false } else s.flags,
                       trace := if origin = .recv then s.trace ++ [.isrEvt] else s.trace,
                       gpioIrqEn := true, tmrArmed := true, tmrDur := b, freeCtr := s.freeCtr + 1 }) ∧
    exec .enterBlockedFromRecv s =
      .next { s with flags := { s.flags with dirty := true, esc := false }, trace := s.trace ++ [.isrEvt] } ∧
    exec .enterRecv s = .next { s with gpioIrqEn := false, tmrArmed := true, tmrDur := s.timeoutTicks } ∧
    exec .enterSend s = .next { s with gpioIrqEn := false, tmrArmed := true, tmrDur := s.timeoutTicks }

/-- The end of an accepted `Apply` (R164): one `TRANSITION` with the settled state; if the sequencer waits for an echo,
its reaction follows in the same step (44_send.md R212). -/
def Obligations.SettlingEmitsOneTransition : Prop :=
  ∀ s : State,
    (s.txPhase ≠ .waitEcho → s.settle = { s with trace := s.trace ++ [.transition s.link] }) ∧
    exec (.txEcho s.link) { s with trace := s.trace ++ [.transition s.link] } = .next s.settle

/-- Over all operations: the trace and the results only grow, and `state` changes only with a `TRANSITION` that carries
its new value, at most one per operation (R164, 10_state.md R36). -/
def Obligations.OneTransitionPerOperation : Prop :=
  ∀ (i : Instr) (s t : State), exec i s = .next t →
    s.results <+: t.results ∧
    ∃ e, t.trace = s.trace ++ e ∧ ((transitions e = [] ∧ t.link = s.link) ∨ transitions e = [t.link])

/-- Over all operations: `state` moves only along the transition table (R142) or to `BLOCKED` by `INIT` (45_config.md
R231); in particular it never becomes `UNDEF`. -/
def Obligations.StateMovesAlongTheTable : Prop :=
  ∀ (i : Instr) (s t : State), exec i s = .next t → t.link ≠ s.link →
    (s.link, t.link) ∈ [(LinkState.undef, LinkState.blocked), (.blocked, .idle), (.blocked, .recv), (.idle, .recv),
      (.idle, .send), (.recv, .blocked), (.send, .blocked)] ∨ (i = .init ∧ t.link = .blocked)

/-! ## The receive path -/

/-- `CLEARRX` (43_receive.md R181): `rx_len` and the three flags, nothing else; the content is not erased. -/
def Obligations.ClearRxClearsLengthAndFlags : Prop :=
  ∀ s : State, exec .clearRx s =
    .next { s with rxLen := 0, flags := { dirty := false, endSeen := false, esc := false } }

/-- `ISR` (R182): spurious, incomplete (R183), too short (R184), filtered (R185), bad CRC (R186), success (R193). -/
def Obligations.IsrValidatesOrDrops : Prop :=
  ∀ (s c : State), c = { s with rxLen := 0, flags := { dirty := false, endSeen := false, esc := false } } →
    (s.flags.dirty = false → exec .isr s = .next s) ∧
    (s.flags.dirty = true → s.flags.endSeen = false → exec .isr s = .next c) ∧
    (s.flags.dirty = true → s.flags.endSeen = true → s.rxLen < 16 → exec .isr s = .next c) ∧
    ∀ (o : Byte) (l : List Byte),
      s.flags.dirty = true → s.flags.endSeen = true → 16 ≤ s.rxLen → BufferHolds s (o :: l) →
      (s.options.promisc = false → o.getLsbD 0 = false → (o :: l).take 6 ≠ s.mac.toList →
        exec .isr s = .next c) ∧
      (crcFrame (o :: l) ≠ 0x0000 → exec .isr s = .next c) ∧
      ((s.options.promisc = true ∨ o.getLsbD 0 = true ∨ (o :: l).take 6 = s.mac.toList) →
        crcFrame (o :: l) = 0x0000 → exec .isr s = .next { s with trace := s.trace ++ [.rxComplete] })

/-- `RECV.SIZE`, `RECV.DROP` and `RECV.SHORT` inside the window (R187, R188, R189, R190): the size is `rx_len` less the
CRC octets; nothing is copied. The window is tested by `flags.DIRTY`, `flags.END` and `rx_len`; that `RECV` also runs
where no `ISR` has validated the buffer is the model's reading (log 11). -/
def Obligations.RecvSizeDropShort : Prop :=
  ∀ (s : State) (len : Nat), s.flags.dirty = true → s.flags.endSeen = true → 16 ≤ s.rxLen →
    exec .recvSize s = .next { s with results := s.results ++ [.size (s.rxLen - 2)] } ∧
    (0 < len → exec (.recvDrop len) s =
      .next { s with rxLen := 0, flags := { dirty := false, endSeen := false, esc := false },
                     results := s.results ++ [.size (s.rxLen - 2)] }) ∧
    (len < s.rxLen - 2 → exec (.recvShort len) s =
      .next { s with rxLen := 0, flags := { dirty := false, endSeen := false, esc := false },
                     results := s.results ++ [.negative .enobufs] })

/-- `RECV.COPY` inside the window (R191): the frame without its CRC field goes to the caller's buffer, no other octet of
that buffer changes, and the receive buffer is cleared but not erased. That it runs where no `ISR` has validated the
buffer is the model's reading (log 11); the caller's buffer is a field of the model (log 21). -/
def Obligations.RecvCopyDeliversTheFrame : Prop :=
  ∀ (s : State) (len : Nat) (l : List Byte), s.flags.dirty = true → s.flags.endSeen = true → 16 ≤ s.rxLen →
    BufferHolds s l → s.rxLen - 2 ≤ len →
    ∃ m : Memory,
      exec (.recvCopy len) s =
        .next { s with rxLen := 0, flags := { dirty := false, endSeen := false, esc := false }, callerBuf := m,
                       results := s.results ++ [.size (s.rxLen - 2)] } ∧
      (∀ a, a < s.rxLen - 2 → m.read a = l[a]?) ∧ ∀ a, s.rxLen - 2 ≤ a → m.read a = s.callerBuf.read a

/-- `RECV` outside its window has no meaning, in all four forms (R192); `rx_len` from 2 to 15 is outside it too (R187:
"Outside that window rule R192 applies", 40_crc.md R125; log 11). -/
def Obligations.RecvOutsideItsWindowIsRefused : Prop :=
  ∀ (s : State) (len : Nat), (s.flags.dirty = false ∨ s.flags.endSeen = false ∨ s.rxLen < 16) →
    exec .recvSize s = .refused .recvOutsideWindow ∧ exec (.recvDrop len) s = .refused .recvOutsideWindow ∧
    exec (.recvShort len) s = .refused .recvOutsideWindow ∧ exec (.recvCopy len) s = .refused .recvOutsideWindow

/-- A whole frame (30_encoding.md R92, R65, 41_codec.md R135, 43_receive.md R180): put on the wire by a correct sender
and heard by a clean station that accepts its address, it is delivered octet for octet. The lengths 14 and 1514 are
general knowledge (log 8), the caller's buffer is a field of the model (log 21). -/
def Obligations.FrameOnTheWireIsDelivered : Prop :=
  ∀ (s : State) (o : Byte) (d : List Byte) (len : Nat),
    14 ≤ (o :: d).length → (o :: d).length ≤ 1514 → (o :: d).length ≤ len →
    (s.link = .blocked ∨ s.link = .idle) → s.gpioIrqEn = true →
    s.flags = { dirty := false, endSeen := false, esc := false } → s.rxLen = 0 → s.txPhase ≠ .waitEcho →
    (s.options.promisc = true ∨ o.getLsbD 0 = true ∨ (o :: d).take 6 = s.mac.toList) →
    ∃ t : State,
      execAll (.gpioFall :: (wireOctets (o :: d)).map .uartRx ++ [.isr, .recvCopy len]) s = .next t ∧
      t.results = s.results ++ [.size (o :: d).length] ∧
      (∀ a, a < (o :: d).length → t.callerBuf.read a = (o :: d)[a]?) ∧
      (∃ e, t.trace = s.trace ++ e ∧ e.filter (fun v => v = .isrEvt || v = .rxComplete) = [.isrEvt, .rxComplete]) ∧
      t.link = .blocked ∧ t.rxLen = 0 ∧ t.flags = { dirty := false, endSeen := false, esc := false } ∧
      t.lastOctet = 0xFF

/-! ## The send path -/

/-- `SEND` starts the sequencer (44_send.md R207); `TXFRAME` starts one attempt (R205; issued by itself, log 19). -/
def Obligations.SendStartsTheSequencer : Prop :=
  ∀ (s : State) (p : List Byte), s.txPhase = .off →
    exec (.send p) s =
      .next { s with txTask := .send, txPayload := p, txRetries := 3, txCrc := 0xFFFF, txPos := 0, txSub := false,
                     txPhase := .waitIdle } ∧
    exec (.txFrame p) s =
      .next { s with txTask := .frame, txPayload := p, txCrc := 0xFFFF, txPos := 0, txSub := false,
                     txPhase := .waitIdle }

/-- `TXOCT` and `TXDATA` issued by themselves write their first octet and wait for its echo (R203, R204; log 19). -/
def Obligations.VerifiedWritesStart : Prop :=
  ∀ (s : State) (c : Byte), s.txPhase = .off →
    exec (.txOct c) s =
      .next { s with txTask := .oct c, txExpect := c, txPhase := .waitEcho, trace := s.trace ++ [.uartTx c] } ∧
    ∃ o : Byte, o = (if c = 0xFF ∨ c = 0xFE then 0xFE else c) ∧
      exec (.txData c) s =
        .next { s with txTask := .data c, txSub := false, txExpect := o, txPhase := .waitEcho,
                       trace := s.trace ++ [.uartTx o] }

/-- A second user of the sequencer has no meaning (93_implementation_defined.md U4; for the parts issued by themselves
the model's choice, log 12). -/
def Obligations.BusySequencerRefusesASecondSend : Prop :=
  ∀ (s : State) (p : List Byte) (c : Byte), s.txPhase ≠ .off →
    exec (.send p) s = .refused .senderBusy ∧ exec (.txFrame p) s = .refused .senderBusy ∧
    exec (.txData c) s = .refused .senderBusy ∧ exec (.txOct c) s = .refused .senderBusy

/-- `TXSTEP` by phase (R206, R208 to R211, R213). In the phases without an enabled step nothing happens (log 18). -/
def Obligations.SequencerSteps : Prop :=
  ∀ s : State,
    (s.txPhase = .off ∨ s.txPhase = .waitEcho ∨ (s.txPhase = .waitIdle ∧ s.link ≠ .idle) →
      exec .txStep s = .next s) ∧
    (s.txPhase = .waitIdle → s.link = .idle → exec .txStep s = .next { s with txPhase := .request }) ∧
    (s.txPhase = .request → s.link = .idle → exec .txStep s =
      .next { s with link := .send, gpioIrqEn := false, tmrArmed := true, tmrDur := s.timeoutTicks,
                     trace := s.trace ++ [.transition .send], txPhase := .put }) ∧
    (s.txPhase = .request → s.link ≠ .idle → s.link ≠ .send → exec .txStep s =
      .next { s with txPhase := .waitIdle }) ∧
    (s.txPhase = .put → exec .txStep s =
      .next { s with txExpect := s.txNextOctet, txPhase := .waitEcho,
                     trace := s.trace ++ [.uartTx s.txNextOctet] }) ∧
    (s.txPhase = .request → s.link = .send → exec .txStep s = .next { s with txPhase := .put }) ∧
    ∀ r : OpResult, (s.txTask = .send ∧ r = .sent s.txPayload.length) ∨ (s.txTask = .frame ∧ r = .verdict .ok) →
      s.txPhase = .finish →
      (s.link ≠ .send → exec .txStep s = .next { s with txPhase := .off, results := s.results ++ [r] }) ∧
      (s.link = .send → TicksOk s →
        ∃ b, s.timeoutTicks ≤ b ∧ b < 2 * s.timeoutTicks ∧ exec .txStep s =
          .next { s with link := .blocked, gpioIrqEn := true, tmrArmed := true, tmrDur := b,
                         freeCtr := s.freeCtr + 1, trace := s.trace ++ [.transition .blocked], txPhase := .off,
                         results := s.results ++ [r] })

/-- The octet that a `TX_PUT` step writes. Of a frame (R206): an escape octet before an escapable element that needs one,
else the element: payload, CRC high, CRC low, bare `END`. Of a `TXDATA` issued by itself (R204; log 19): the escape octet
before a reserved octet, and once that is verified the octet itself. Of a `TXOCT` (R203; log 19): its octet. -/
def Obligations.NextOctetOfAFrame : Prop :=
  ∀ s : State,
    (∀ c : Byte, s.txTask = .data c →
      (s.txSub = true → s.txNextOctet = c) ∧
      (s.txSub = false → s.txNextOctet = if c = 0xFF ∨ c = 0xFE then 0xFE else c)) ∧
    (∀ c : Byte, s.txTask = .oct c → s.txNextOctet = c) ∧
    ((s.txTask = .send ∨ s.txTask = .frame) →
      (∀ o : Byte, s.txPayload[s.txPos]? = some o →
        s.txNextOctet = if (o = 0xFF ∨ o = 0xFE) ∧ s.txSub = false then 0xFE else o) ∧
      (s.txPos = s.txPayload.length → ∀ o : Byte, o = s.txCrc.extractLsb' 8 8 →
        s.txNextOctet = if (o = 0xFF ∨ o = 0xFE) ∧ s.txSub = false then 0xFE else o) ∧
      (s.txPos = s.txPayload.length + 1 → ∀ o : Byte, o = s.txCrc.extractLsb' 0 8 →
        s.txNextOctet = if (o = 0xFF ∨ o = 0xFE) ∧ s.txSub = false then 0xFE else o) ∧
      (s.txPos = s.txPayload.length + 2 → s.txNextOctet = 0xFF))

/-- The echo reaction (R212): nothing unless an echo is awaited (the model's choice, log 18); on a collision `SEND`
retries from scratch or gives up (R214, R215); a verified escape octet; a verified element. -/
def Obligations.EchoReaction : Prop :=
  ∀ (s : State) (l : LinkState),
    (s.txPhase ≠ .waitEcho → exec (.txEcho l) s = .next s) ∧
    (s.txPhase = .waitEcho → s.txTask = .send → (l ≠ .send ∨ s.lastOctet ≠ s.txExpect) →
      (s.txRetries = 0 → exec (.txEcho l) s =
        .next { s with txPhase := .off, results := s.results ++ [.sent 0] }) ∧
      (s.txRetries ≠ 0 → exec (.txEcho l) s =
        .next { s with txRetries := s.txRetries - 1, txCrc := 0xFFFF, txPos := 0, txSub := false,
                       txPhase := .waitIdle })) ∧
    (s.txPhase = .waitEcho → (s.txTask = .send ∨ s.txTask = .frame) → l = .send → s.lastOctet = s.txExpect →
      (s.txNeedsEsc = true ∧ s.txSub = false → exec (.txEcho l) s =
        .next { s with txSub := true, txPhase := .put }) ∧
      (s.txNeedsEsc = false ∨ s.txSub = true →
        (∀ o : Byte, s.txPayload[s.txPos]? = some o → exec (.txEcho l) s =
          .next { s with txCrc := crcUpdate s.txCrc o, txSub := false, txPos := s.txPos + 1, txPhase := .put }) ∧
        (s.txPayload.length ≤ s.txPos → s.txPos < s.txPayload.length + 2 → exec (.txEcho l) s =
          .next { s with txSub := false, txPos := s.txPos + 1, txPhase := .put }) ∧
        (s.txPayload.length + 2 ≤ s.txPos → exec (.txEcho l) s =
          .next { s with txSub := false, txPos := s.txPos + 1, txPhase := .finish })))

/-- The verdicts of `TXOCT`, `TXDATA` and `TXFRAME` issued by themselves (R202 to R205; log 19). -/
def Obligations.EchoVerdicts : Prop :=
  ∀ (s : State) (l : LinkState), s.txPhase = .waitEcho →
    (s.txTask ≠ .send → l ≠ .send → exec (.txEcho l) s =
      .next { s with txPhase := .off, results := s.results ++ [.verdict .collisionTimeout] }) ∧
    (s.txTask ≠ .send → l = .send → s.lastOctet ≠ s.txExpect → exec (.txEcho l) s =
      .next { s with txPhase := .off, results := s.results ++ [.verdict .collisionMismatch] }) ∧
    (∀ c : Byte, s.txTask = .oct c → l = .send → s.lastOctet = s.txExpect → exec (.txEcho l) s =
      .next { s with txPhase := .off, results := s.results ++ [.verdict .ok] }) ∧
    (∀ c : Byte, s.txTask = .data c → l = .send → s.lastOctet = s.txExpect →
      ((c = 0xFF ∨ c = 0xFE) ∧ s.txSub = false → exec (.txEcho l) s =
        .next { s with txSub := true, txPhase := .put }) ∧
      ((c ≠ 0xFF ∧ c ≠ 0xFE) ∨ s.txSub = true → exec (.txEcho l) s =
        .next { s with txSub := false, txPhase := .off, results := s.results ++ [.verdict .ok] }))

/-- The sequencer's invariant, kept by every step: `tx_crc` is the CRC of the payload octets verified so far, and the
octets of the current attempt are the last ones written to the UART (R209, R210, R217). -/
def Obligations.SequencerInvariantKept : Prop :=
  ∀ s t : State, TxOk s → step s = .next t → TxOk t

/-- A `SEND` that returns its payload's length has written exactly the frame's wire form as the last UART octets
(R213, R217). -/
def Obligations.SendReturnsAfterTheWholeFrame : Prop :=
  ∀ s : State, TxOk s → s.txPhase = .finish → s.txTask = .send →
    ∃ t, exec .txStep s = .next t ∧ t.txPhase = .off ∧ t.results = s.results ++ [.sent s.txPayload.length] ∧
      wireOctets s.txPayload <:+ t.uartOctets

/-- While the sequencer runs, no operation raises `tx_retries` or changes the payload or the procedure, and an attempt
that starts over costs one retry (R207, R214, R215): at most four attempts. -/
def Obligations.RetriesOnlyDecrease : Prop :=
  ∀ (i : Instr) (s t : State), s.txPhase ≠ .off → exec i s = .next t →
    t.txTask = s.txTask ∧ t.txPayload = s.txPayload ∧ t.txRetries ≤ s.txRetries ∧
    (s.txPhase = .waitEcho → t.txPhase = .waitIdle → t.txRetries + 1 = s.txRetries)

/-- The ideal medium (30_encoding.md R106 `SENDOK`): from `IDLE`, with every octet echoed, one attempt sends the whole
wire form and `SEND` returns the payload's length (R205, R207, R217). -/
def Obligations.SendOnAnIdealMedium : Prop :=
  ∀ (s : State) (p : List Byte), s.link = .idle → s.txPhase = .off →
    ∃ t : State,
      execAll ([.send p, .txStep, .txStep] ++ (wireOctets p).flatMap (fun o => [.txStep, .uartRx o]) ++ [.txStep]) s =
        .next t ∧
      t.uartOctets = s.uartOctets ++ wireOctets p ∧ t.results = s.results ++ [.sent p.length] ∧
      t.txPhase = .off ∧ t.txRetries = 3 ∧ t.link = .blocked ∧ t.rxLen = s.rxLen ∧ t.rxBuf = s.rxBuf ∧
      t.flags = s.flags

/-! ## Initialisation and configuration -/

/-- `INIT` (45_config.md R231, R232): from any state to `BLOCKED` with the short back-off, flags and `rx_len` cleared,
`options`, `mac` and `timeout_ticks` kept, result 0. While the sequencer runs the same rules apply (the model's choice
where U4 leaves the case out, log 13): the waiting verifier reacts inside `settle`. -/
def Obligations.InitResetsTransientState : Prop :=
  ∀ s : State, TicksOk s →
    ∃ (b : Nat) (u : State), s.timeoutTicks / 10 ≤ b ∧ b < s.timeoutTicks ∧
      u = ({ s with link := .blocked, flags := { dirty := false, endSeen := false, esc := false }, rxLen := 0,
                    gpioIrqEn := true, tmrArmed := true, tmrDur := b,
                    freeCtr := s.freeCtr + 1 } : State).settle ∧
      exec .init s = .next { u with results := u.results ++ [.status 0] }

/-- `GET` of the two options the core owns (R233, R234). -/
def Obligations.GetReturnsTheOption : Prop :=
  ∀ (s : State) (n : Nat),
    (6 ≤ n → exec (.getAddress n) s = .next { s with results := s.results ++ [.address s.mac] }) ∧
    (n < 6 → exec (.getAddress n) s = .refused .addressBufferShort) ∧
    exec .getPromiscuousMode s = .next { s with results := s.results ++ [.promisc s.options.promisc] }

/-- `SET.PROMISCUOUSMODE` (R235; the third value is refused, 93_implementation_defined.md U7, log 14), whose status is a
free value (log 15), and every other option of `GET` and `SET`, which is delegated (R236, log 20). -/
def Obligations.SetWritesTheOption : Prop :=
  ∀ (s : State) (opt raw : Byte) (value : List Byte),
    (∃ v : Int, exec (.setPromiscuousMode .enable) s =
      .next { s with options := { promisc := true }, results := s.results ++ [.status v],
                     freeCtr := s.freeCtr + 1 }) ∧
    (∃ v : Int, exec (.setPromiscuousMode .disable) s =
      .next { s with options := { promisc := false }, results := s.results ++ [.status v],
                     freeCtr := s.freeCtr + 1 }) ∧
    exec (.setPromiscuousMode (.neither raw)) s = .refused .promiscValue ∧
    exec (.getOther opt) s = .next { s with results := s.results ++ [.delegated] } ∧
    exec (.setOther opt value) s = .next { s with results := s.results ++ [.delegated] }

/-! ## Reset -/

/-- What reset leaves where R45 gives a value, and that only `INIT` then moves the FSM (R45, 70_reset_and_hazards.md
R290). That `TIMERFIRE` with the timer not armed, a step that is not enabled, changes nothing is the model's choice
(log 18). Every octet of `rx_buf` can be read and holds its reset content, of which nothing is known (log 10). -/
def Obligations.ResetIsInert : Prop :=
  State.reset.link = .undef ∧ State.reset.flags = { dirty := false, endSeen := false, esc := false } ∧
  State.reset.options.promisc = false ∧ State.reset.mac = Config.macAddr ∧ State.reset.rxLen = 0 ∧
  State.reset.timeoutTicks = Config.timeoutTicks ∧ State.reset.gpioIrqEn = false ∧ State.reset.tmrArmed = false ∧
  State.reset.txPhase = .off ∧ (∀ a < 1516, State.reset.readRx a = .ok (Config.rxBufReset a)) ∧
  (∀ sig : Signal, sig ≠ .init → State.reset.apply sig = State.reset) ∧
  exec .gpioFall State.reset = .next State.reset ∧ exec .timerFire State.reset = .next State.reset

/-- Reset meets every invariant stated below. -/
def Obligations.ResetMeetsTheInvariants : Prop :=
  MemoryOk State.reset ∧ BufferOk State.reset ∧ TimerMaskOk State.reset ∧ CleanOk State.reset ∧
  TicksOk State.reset ∧ TxOk State.reset

/-! ## Whole-machine rules -/

/-- Every step keeps the memory's form, `rx_len` in range and every octet below it written (10_state.md R44 (b),
20_memory.md R63, R64). -/
def Obligations.ReceiveMemoryInvariantKept : Prop :=
  ∀ s t : State, MemoryOk s → BufferOk s → step s = .next t → MemoryOk t ∧ BufferOk t

/-- No access is out of range, so no step faults (R63, 60_exceptions.md R257); and no octet is read before it was written
(R64): a read of indices below `rx_len`, the only ones `ISR` and `RECV` read, answers octets that have been written. -/
def Obligations.NoStepFaults : Prop :=
  (∀ s : State, s.rxLen ≤ 1516 → NoFault (step s)) ∧
  ∀ (s : State) (n : Nat), BufferOk s → n ≤ s.rxLen →
    ∃ l : List Byte, s.readRxFrom 0 n = .ok l ∧ l.length = n ∧ ∀ a < n, s.rxBuf.read a = l[a]?

/-- R44 (d) and (e): the timer is armed exactly in `BLOCKED`, `RECV`, `SEND`, and the mask open exactly in `BLOCKED` and
`IDLE`, kept by every step but those of a procedure's part issued by itself (log 18). -/
def Obligations.TimerAndMaskInvariantKept : Prop :=
  ∀ s t : State, TimerMaskOk s → step s = .next t →
    (∀ packet rest i, s.pending = packet :: rest → decode packet = .ok i → isFragment i = false) →
    TimerMaskOk t

/-- R44 (c): clean and not receiving means empty, kept by every operation but a bare `DEC` (log 18). It follows from
R150, R157, R181 and R231. R44 (c) has the proviso that no `CLEARRX` was performed in `RECV`, and R303 says that (c) does
not hold across one; the statement needs no proviso, since it says nothing while the state is `RECV` and `RECV` is left
only with `DIRTY` set or by `INIT`, which clears all (log 25). -/
def Obligations.CleanBufferInvariantKept : Prop :=
  ∀ (i : Instr) (s t : State), (∀ o, i ≠ .dec o) → CleanOk s → exec i s = .next t → CleanOk t

/-- R44 (f), R69: while dirty, `rx_buf` does not change, and `rx_len` and the flag change only by clearing all. -/
def Obligations.DirtyBufferIsFrozen : Prop :=
  ∀ (i : Instr) (s t : State), s.flags.dirty = true → exec i s = .next t →
    t.rxBuf = s.rxBuf ∧
    ((t.rxLen = s.rxLen ∧ t.flags.dirty = true) ∨
      (t.rxLen = 0 ∧ t.flags = { dirty := false, endSeen := false, esc := false }))

/-- R28, R29, R60: whatever the operation, `rx_buf` changes at most at index `rx_len`, `rx_len` stays, grows by one or
becomes 0, and it grows only in `RECV`. -/
def Obligations.BufferGrowsOnlyAtItsEnd : Prop :=
  ∀ (i : Instr) (s t : State), exec i s = .next t →
    (∀ a, a ≠ s.rxLen → t.rxBuf.read a = s.rxBuf.read a) ∧
    (t.rxLen = s.rxLen ∨ t.rxLen = 0 ∨ (t.rxLen = s.rxLen + 1 ∧ s.link = .recv ∧ t.link = .recv))

/-- R26, R27, R30, R31: `mac` and `timeout_ticks` are never written, `options` only by `SET.PROMISCUOUSMODE`,
`last_octet` only by an octet that arrives. -/
def Obligations.PersistentRegistersKept : Prop :=
  ∀ (i : Instr) (s t : State), exec i s = .next t →
    t.mac = s.mac ∧ t.timeoutTicks = s.timeoutTicks ∧
    (t.options = s.options ∨ ∃ v, i = .setPromiscuousMode v) ∧
    (t.lastOctet = s.lastOctet ∨ Arrives i t.lastOctet)

/-- R24, R23: `flags.END` and `flags.DIRTY` are cleared only together, by the operations that perform `CLEARRX`. -/
def Obligations.EndFlagClearedOnlyByClearRx : Prop :=
  ∀ (i : Instr) (s t : State), exec i s = .next t →
    (s.flags.endSeen = true ∧ t.flags.endSeen = false) ∨ (s.flags.dirty = true ∧ t.flags.dirty = false) →
    t.rxLen = 0 ∧ t.flags = { dirty := false, endSeen := false, esc := false } ∧
    (i = .clearRx ∨ i = .isr ∨ i = .init ∨ ∃ n, i = .recvDrop n ∨ i = .recvShort n ∨ i = .recvCopy n)

/-- R64: octets of `rx_buf` at or above `rx_len` are unobservable, the reset content among them. Two states that differ only there answer every
operation alike and stay alike. -/
def Obligations.UnwrittenOctetsAreUnobservable : Prop :=
  ∀ (i : Instr) (s t : State), SameBelow s t → SameOutcome (exec i s) (exec i t)
end

