-- ==== Sys2Proof/Laws/State.lean ====
section
/-! SUPPORT. One lemma per field per update of State, true by rfl, so that no proof unfolds a record update. -/

namespace Sys2Proof.Machine

variable (s : State)

/-! ## `emit` -/

@[simp] theorem State.emit_link (e : OutEvent) : (s.emit e).link = s.link := rfl
@[simp] theorem State.emit_flags (e : OutEvent) : (s.emit e).flags = s.flags := rfl
@[simp] theorem State.emit_options (e : OutEvent) : (s.emit e).options = s.options := rfl
@[simp] theorem State.emit_mac (e : OutEvent) : (s.emit e).mac = s.mac := rfl
@[simp] theorem State.emit_rxBuf (e : OutEvent) : (s.emit e).rxBuf = s.rxBuf := rfl
@[simp] theorem State.emit_rxLen (e : OutEvent) : (s.emit e).rxLen = s.rxLen := rfl
@[simp] theorem State.emit_lastOctet (e : OutEvent) : (s.emit e).lastOctet = s.lastOctet := rfl
@[simp] theorem State.emit_timeoutTicks (e : OutEvent) : (s.emit e).timeoutTicks = s.timeoutTicks := rfl
@[simp] theorem State.emit_gpioIrqEn (e : OutEvent) : (s.emit e).gpioIrqEn = s.gpioIrqEn := rfl
@[simp] theorem State.emit_tmrArmed (e : OutEvent) : (s.emit e).tmrArmed = s.tmrArmed := rfl
@[simp] theorem State.emit_tmrDur (e : OutEvent) : (s.emit e).tmrDur = s.tmrDur := rfl
@[simp] theorem State.emit_txPhase (e : OutEvent) : (s.emit e).txPhase = s.txPhase := rfl
@[simp] theorem State.emit_txRetries (e : OutEvent) : (s.emit e).txRetries = s.txRetries := rfl
@[simp] theorem State.emit_txCrc (e : OutEvent) : (s.emit e).txCrc = s.txCrc := rfl
@[simp] theorem State.emit_txPos (e : OutEvent) : (s.emit e).txPos = s.txPos := rfl
@[simp] theorem State.emit_txSub (e : OutEvent) : (s.emit e).txSub = s.txSub := rfl
@[simp] theorem State.emit_txExpect (e : OutEvent) : (s.emit e).txExpect = s.txExpect := rfl
@[simp] theorem State.emit_txTask (e : OutEvent) : (s.emit e).txTask = s.txTask := rfl
@[simp] theorem State.emit_txPayload (e : OutEvent) : (s.emit e).txPayload = s.txPayload := rfl
@[simp] theorem State.emit_callerBuf (e : OutEvent) : (s.emit e).callerBuf = s.callerBuf := rfl
@[simp] theorem State.emit_trace (e : OutEvent) : (s.emit e).trace = s.trace ++ [e] := rfl
@[simp] theorem State.emit_results (e : OutEvent) : (s.emit e).results = s.results := rfl
@[simp] theorem State.emit_freeCtr (e : OutEvent) : (s.emit e).freeCtr = s.freeCtr := rfl
@[simp] theorem State.emit_pending (e : OutEvent) : (s.emit e).pending = s.pending := rfl

/-! ## `answer` -/

@[simp] theorem State.answer_link (r : OpResult) : (s.answer r).link = s.link := rfl
@[simp] theorem State.answer_flags (r : OpResult) : (s.answer r).flags = s.flags := rfl
@[simp] theorem State.answer_options (r : OpResult) : (s.answer r).options = s.options := rfl
@[simp] theorem State.answer_mac (r : OpResult) : (s.answer r).mac = s.mac := rfl
@[simp] theorem State.answer_rxBuf (r : OpResult) : (s.answer r).rxBuf = s.rxBuf := rfl
@[simp] theorem State.answer_rxLen (r : OpResult) : (s.answer r).rxLen = s.rxLen := rfl
@[simp] theorem State.answer_lastOctet (r : OpResult) : (s.answer r).lastOctet = s.lastOctet := rfl
@[simp] theorem State.answer_timeoutTicks (r : OpResult) : (s.answer r).timeoutTicks = s.timeoutTicks := rfl
@[simp] theorem State.answer_gpioIrqEn (r : OpResult) : (s.answer r).gpioIrqEn = s.gpioIrqEn := rfl
@[simp] theorem State.answer_tmrArmed (r : OpResult) : (s.answer r).tmrArmed = s.tmrArmed := rfl
@[simp] theorem State.answer_tmrDur (r : OpResult) : (s.answer r).tmrDur = s.tmrDur := rfl
@[simp] theorem State.answer_txPhase (r : OpResult) : (s.answer r).txPhase = s.txPhase := rfl
@[simp] theorem State.answer_txRetries (r : OpResult) : (s.answer r).txRetries = s.txRetries := rfl
@[simp] theorem State.answer_txCrc (r : OpResult) : (s.answer r).txCrc = s.txCrc := rfl
@[simp] theorem State.answer_txPos (r : OpResult) : (s.answer r).txPos = s.txPos := rfl
@[simp] theorem State.answer_txSub (r : OpResult) : (s.answer r).txSub = s.txSub := rfl
@[simp] theorem State.answer_txExpect (r : OpResult) : (s.answer r).txExpect = s.txExpect := rfl
@[simp] theorem State.answer_txTask (r : OpResult) : (s.answer r).txTask = s.txTask := rfl
@[simp] theorem State.answer_txPayload (r : OpResult) : (s.answer r).txPayload = s.txPayload := rfl
@[simp] theorem State.answer_callerBuf (r : OpResult) : (s.answer r).callerBuf = s.callerBuf := rfl
@[simp] theorem State.answer_trace (r : OpResult) : (s.answer r).trace = s.trace := rfl
@[simp] theorem State.answer_results (r : OpResult) : (s.answer r).results = s.results ++ [r] := rfl
@[simp] theorem State.answer_freeCtr (r : OpResult) : (s.answer r).freeCtr = s.freeCtr := rfl
@[simp] theorem State.answer_pending (r : OpResult) : (s.answer r).pending = s.pending := rfl

/-! ## `arm` -/

@[simp] theorem State.arm_link (d : Nat) : (s.arm d).link = s.link := rfl
@[simp] theorem State.arm_flags (d : Nat) : (s.arm d).flags = s.flags := rfl
@[simp] theorem State.arm_options (d : Nat) : (s.arm d).options = s.options := rfl
@[simp] theorem State.arm_mac (d : Nat) : (s.arm d).mac = s.mac := rfl
@[simp] theorem State.arm_rxBuf (d : Nat) : (s.arm d).rxBuf = s.rxBuf := rfl
@[simp] theorem State.arm_rxLen (d : Nat) : (s.arm d).rxLen = s.rxLen := rfl
@[simp] theorem State.arm_lastOctet (d : Nat) : (s.arm d).lastOctet = s.lastOctet := rfl
@[simp] theorem State.arm_timeoutTicks (d : Nat) : (s.arm d).timeoutTicks = s.timeoutTicks := rfl
@[simp] theorem State.arm_gpioIrqEn (d : Nat) : (s.arm d).gpioIrqEn = s.gpioIrqEn := rfl
@[simp] theorem State.arm_tmrArmed (d : Nat) : (s.arm d).tmrArmed = true := rfl
@[simp] theorem State.arm_tmrDur (d : Nat) : (s.arm d).tmrDur = d := rfl
@[simp] theorem State.arm_txPhase (d : Nat) : (s.arm d).txPhase = s.txPhase := rfl
@[simp] theorem State.arm_txRetries (d : Nat) : (s.arm d).txRetries = s.txRetries := rfl
@[simp] theorem State.arm_txCrc (d : Nat) : (s.arm d).txCrc = s.txCrc := rfl
@[simp] theorem State.arm_txPos (d : Nat) : (s.arm d).txPos = s.txPos := rfl
@[simp] theorem State.arm_txSub (d : Nat) : (s.arm d).txSub = s.txSub := rfl
@[simp] theorem State.arm_txExpect (d : Nat) : (s.arm d).txExpect = s.txExpect := rfl
@[simp] theorem State.arm_txTask (d : Nat) : (s.arm d).txTask = s.txTask := rfl
@[simp] theorem State.arm_txPayload (d : Nat) : (s.arm d).txPayload = s.txPayload := rfl
@[simp] theorem State.arm_callerBuf (d : Nat) : (s.arm d).callerBuf = s.callerBuf := rfl
@[simp] theorem State.arm_trace (d : Nat) : (s.arm d).trace = s.trace := rfl
@[simp] theorem State.arm_results (d : Nat) : (s.arm d).results = s.results := rfl
@[simp] theorem State.arm_freeCtr (d : Nat) : (s.arm d).freeCtr = s.freeCtr := rfl
@[simp] theorem State.arm_pending (d : Nat) : (s.arm d).pending = s.pending := rfl

/-! ## `useFree` -/

@[simp] theorem State.useFree_link : (s.useFree).link = s.link := rfl
@[simp] theorem State.useFree_flags : (s.useFree).flags = s.flags := rfl
@[simp] theorem State.useFree_options : (s.useFree).options = s.options := rfl
@[simp] theorem State.useFree_mac : (s.useFree).mac = s.mac := rfl
@[simp] theorem State.useFree_rxBuf : (s.useFree).rxBuf = s.rxBuf := rfl
@[simp] theorem State.useFree_rxLen : (s.useFree).rxLen = s.rxLen := rfl
@[simp] theorem State.useFree_lastOctet : (s.useFree).lastOctet = s.lastOctet := rfl
@[simp] theorem State.useFree_timeoutTicks : (s.useFree).timeoutTicks = s.timeoutTicks := rfl
@[simp] theorem State.useFree_gpioIrqEn : (s.useFree).gpioIrqEn = s.gpioIrqEn := rfl
@[simp] theorem State.useFree_tmrArmed : (s.useFree).tmrArmed = s.tmrArmed := rfl
@[simp] theorem State.useFree_tmrDur : (s.useFree).tmrDur = s.tmrDur := rfl
@[simp] theorem State.useFree_txPhase : (s.useFree).txPhase = s.txPhase := rfl
@[simp] theorem State.useFree_txRetries : (s.useFree).txRetries = s.txRetries := rfl
@[simp] theorem State.useFree_txCrc : (s.useFree).txCrc = s.txCrc := rfl
@[simp] theorem State.useFree_txPos : (s.useFree).txPos = s.txPos := rfl
@[simp] theorem State.useFree_txSub : (s.useFree).txSub = s.txSub := rfl
@[simp] theorem State.useFree_txExpect : (s.useFree).txExpect = s.txExpect := rfl
@[simp] theorem State.useFree_txTask : (s.useFree).txTask = s.txTask := rfl
@[simp] theorem State.useFree_txPayload : (s.useFree).txPayload = s.txPayload := rfl
@[simp] theorem State.useFree_callerBuf : (s.useFree).callerBuf = s.callerBuf := rfl
@[simp] theorem State.useFree_trace : (s.useFree).trace = s.trace := rfl
@[simp] theorem State.useFree_results : (s.useFree).results = s.results := rfl
@[simp] theorem State.useFree_freeCtr : (s.useFree).freeCtr = s.freeCtr + 1 := rfl
@[simp] theorem State.useFree_pending : (s.useFree).pending = s.pending := rfl

/-! ## `clearBuffer` -/

@[simp] theorem State.clearBuffer_link : (s.clearBuffer).link = s.link := rfl
@[simp] theorem State.clearBuffer_flags : (s.clearBuffer).flags = Flags.clear := rfl
@[simp] theorem State.clearBuffer_options : (s.clearBuffer).options = s.options := rfl
@[simp] theorem State.clearBuffer_mac : (s.clearBuffer).mac = s.mac := rfl
@[simp] theorem State.clearBuffer_rxBuf : (s.clearBuffer).rxBuf = s.rxBuf := rfl
@[simp] theorem State.clearBuffer_rxLen : (s.clearBuffer).rxLen = 0 := rfl
@[simp] theorem State.clearBuffer_lastOctet : (s.clearBuffer).lastOctet = s.lastOctet := rfl
@[simp] theorem State.clearBuffer_timeoutTicks : (s.clearBuffer).timeoutTicks = s.timeoutTicks := rfl
@[simp] theorem State.clearBuffer_gpioIrqEn : (s.clearBuffer).gpioIrqEn = s.gpioIrqEn := rfl
@[simp] theorem State.clearBuffer_tmrArmed : (s.clearBuffer).tmrArmed = s.tmrArmed := rfl
@[simp] theorem State.clearBuffer_tmrDur : (s.clearBuffer).tmrDur = s.tmrDur := rfl
@[simp] theorem State.clearBuffer_txPhase : (s.clearBuffer).txPhase = s.txPhase := rfl
@[simp] theorem State.clearBuffer_txRetries : (s.clearBuffer).txRetries = s.txRetries := rfl
@[simp] theorem State.clearBuffer_txCrc : (s.clearBuffer).txCrc = s.txCrc := rfl
@[simp] theorem State.clearBuffer_txPos : (s.clearBuffer).txPos = s.txPos := rfl
@[simp] theorem State.clearBuffer_txSub : (s.clearBuffer).txSub = s.txSub := rfl
@[simp] theorem State.clearBuffer_txExpect : (s.clearBuffer).txExpect = s.txExpect := rfl
@[simp] theorem State.clearBuffer_txTask : (s.clearBuffer).txTask = s.txTask := rfl
@[simp] theorem State.clearBuffer_txPayload : (s.clearBuffer).txPayload = s.txPayload := rfl
@[simp] theorem State.clearBuffer_callerBuf : (s.clearBuffer).callerBuf = s.callerBuf := rfl
@[simp] theorem State.clearBuffer_trace : (s.clearBuffer).trace = s.trace := rfl
@[simp] theorem State.clearBuffer_results : (s.clearBuffer).results = s.results := rfl
@[simp] theorem State.clearBuffer_freeCtr : (s.clearBuffer).freeCtr = s.freeCtr := rfl
@[simp] theorem State.clearBuffer_pending : (s.clearBuffer).pending = s.pending := rfl

/-! ## `enterRecvFresh` -/

@[simp] theorem State.enterRecvFresh_link : (s.enterRecvFresh).link = s.link := rfl
@[simp] theorem State.enterRecvFresh_flags : (s.enterRecvFresh).flags = s.flags := rfl
@[simp] theorem State.enterRecvFresh_options : (s.enterRecvFresh).options = s.options := rfl
@[simp] theorem State.enterRecvFresh_mac : (s.enterRecvFresh).mac = s.mac := rfl
@[simp] theorem State.enterRecvFresh_rxBuf : (s.enterRecvFresh).rxBuf = s.rxBuf := rfl
@[simp] theorem State.enterRecvFresh_rxLen : (s.enterRecvFresh).rxLen = s.rxLen := rfl
@[simp] theorem State.enterRecvFresh_lastOctet : (s.enterRecvFresh).lastOctet = s.lastOctet := rfl
@[simp] theorem State.enterRecvFresh_timeoutTicks : (s.enterRecvFresh).timeoutTicks = s.timeoutTicks := rfl
@[simp] theorem State.enterRecvFresh_gpioIrqEn : (s.enterRecvFresh).gpioIrqEn = false := rfl
@[simp] theorem State.enterRecvFresh_tmrArmed : (s.enterRecvFresh).tmrArmed = true := rfl
@[simp] theorem State.enterRecvFresh_tmrDur : (s.enterRecvFresh).tmrDur = s.timeoutTicks := rfl
@[simp] theorem State.enterRecvFresh_txPhase : (s.enterRecvFresh).txPhase = s.txPhase := rfl
@[simp] theorem State.enterRecvFresh_txRetries : (s.enterRecvFresh).txRetries = s.txRetries := rfl
@[simp] theorem State.enterRecvFresh_txCrc : (s.enterRecvFresh).txCrc = s.txCrc := rfl
@[simp] theorem State.enterRecvFresh_txPos : (s.enterRecvFresh).txPos = s.txPos := rfl
@[simp] theorem State.enterRecvFresh_txSub : (s.enterRecvFresh).txSub = s.txSub := rfl
@[simp] theorem State.enterRecvFresh_txExpect : (s.enterRecvFresh).txExpect = s.txExpect := rfl
@[simp] theorem State.enterRecvFresh_txTask : (s.enterRecvFresh).txTask = s.txTask := rfl
@[simp] theorem State.enterRecvFresh_txPayload : (s.enterRecvFresh).txPayload = s.txPayload := rfl
@[simp] theorem State.enterRecvFresh_callerBuf : (s.enterRecvFresh).callerBuf = s.callerBuf := rfl
@[simp] theorem State.enterRecvFresh_trace : (s.enterRecvFresh).trace = s.trace := rfl
@[simp] theorem State.enterRecvFresh_results : (s.enterRecvFresh).results = s.results := rfl
@[simp] theorem State.enterRecvFresh_freeCtr : (s.enterRecvFresh).freeCtr = s.freeCtr := rfl
@[simp] theorem State.enterRecvFresh_pending : (s.enterRecvFresh).pending = s.pending := rfl

/-! ## `enterSend` -/

@[simp] theorem State.enterSend_link : (s.enterSend).link = s.link := rfl
@[simp] theorem State.enterSend_flags : (s.enterSend).flags = s.flags := rfl
@[simp] theorem State.enterSend_options : (s.enterSend).options = s.options := rfl
@[simp] theorem State.enterSend_mac : (s.enterSend).mac = s.mac := rfl
@[simp] theorem State.enterSend_rxBuf : (s.enterSend).rxBuf = s.rxBuf := rfl
@[simp] theorem State.enterSend_rxLen : (s.enterSend).rxLen = s.rxLen := rfl
@[simp] theorem State.enterSend_lastOctet : (s.enterSend).lastOctet = s.lastOctet := rfl
@[simp] theorem State.enterSend_timeoutTicks : (s.enterSend).timeoutTicks = s.timeoutTicks := rfl
@[simp] theorem State.enterSend_gpioIrqEn : (s.enterSend).gpioIrqEn = false := rfl
@[simp] theorem State.enterSend_tmrArmed : (s.enterSend).tmrArmed = true := rfl
@[simp] theorem State.enterSend_tmrDur : (s.enterSend).tmrDur = s.timeoutTicks := rfl
@[simp] theorem State.enterSend_txPhase : (s.enterSend).txPhase = s.txPhase := rfl
@[simp] theorem State.enterSend_txRetries : (s.enterSend).txRetries = s.txRetries := rfl
@[simp] theorem State.enterSend_txCrc : (s.enterSend).txCrc = s.txCrc := rfl
@[simp] theorem State.enterSend_txPos : (s.enterSend).txPos = s.txPos := rfl
@[simp] theorem State.enterSend_txSub : (s.enterSend).txSub = s.txSub := rfl
@[simp] theorem State.enterSend_txExpect : (s.enterSend).txExpect = s.txExpect := rfl
@[simp] theorem State.enterSend_txTask : (s.enterSend).txTask = s.txTask := rfl
@[simp] theorem State.enterSend_txPayload : (s.enterSend).txPayload = s.txPayload := rfl
@[simp] theorem State.enterSend_callerBuf : (s.enterSend).callerBuf = s.callerBuf := rfl
@[simp] theorem State.enterSend_trace : (s.enterSend).trace = s.trace := rfl
@[simp] theorem State.enterSend_results : (s.enterSend).results = s.results := rfl
@[simp] theorem State.enterSend_freeCtr : (s.enterSend).freeCtr = s.freeCtr := rfl
@[simp] theorem State.enterSend_pending : (s.enterSend).pending = s.pending := rfl

/-! ## `enterBlockedFromRecv` -/

@[simp] theorem State.enterBlockedFromRecv_link : (s.enterBlockedFromRecv).link = s.link := rfl
@[simp] theorem State.enterBlockedFromRecv_flags : (s.enterBlockedFromRecv).flags = { s.flags with dirty := true, esc := false } := rfl
@[simp] theorem State.enterBlockedFromRecv_options : (s.enterBlockedFromRecv).options = s.options := rfl
@[simp] theorem State.enterBlockedFromRecv_mac : (s.enterBlockedFromRecv).mac = s.mac := rfl
@[simp] theorem State.enterBlockedFromRecv_rxBuf : (s.enterBlockedFromRecv).rxBuf = s.rxBuf := rfl
@[simp] theorem State.enterBlockedFromRecv_rxLen : (s.enterBlockedFromRecv).rxLen = s.rxLen := rfl
@[simp] theorem State.enterBlockedFromRecv_lastOctet : (s.enterBlockedFromRecv).lastOctet = s.lastOctet := rfl
@[simp] theorem State.enterBlockedFromRecv_timeoutTicks : (s.enterBlockedFromRecv).timeoutTicks = s.timeoutTicks := rfl
@[simp] theorem State.enterBlockedFromRecv_gpioIrqEn : (s.enterBlockedFromRecv).gpioIrqEn = s.gpioIrqEn := rfl
@[simp] theorem State.enterBlockedFromRecv_tmrArmed : (s.enterBlockedFromRecv).tmrArmed = s.tmrArmed := rfl
@[simp] theorem State.enterBlockedFromRecv_tmrDur : (s.enterBlockedFromRecv).tmrDur = s.tmrDur := rfl
@[simp] theorem State.enterBlockedFromRecv_txPhase : (s.enterBlockedFromRecv).txPhase = s.txPhase := rfl
@[simp] theorem State.enterBlockedFromRecv_txRetries : (s.enterBlockedFromRecv).txRetries = s.txRetries := rfl
@[simp] theorem State.enterBlockedFromRecv_txCrc : (s.enterBlockedFromRecv).txCrc = s.txCrc := rfl
@[simp] theorem State.enterBlockedFromRecv_txPos : (s.enterBlockedFromRecv).txPos = s.txPos := rfl
@[simp] theorem State.enterBlockedFromRecv_txSub : (s.enterBlockedFromRecv).txSub = s.txSub := rfl
@[simp] theorem State.enterBlockedFromRecv_txExpect : (s.enterBlockedFromRecv).txExpect = s.txExpect := rfl
@[simp] theorem State.enterBlockedFromRecv_txTask : (s.enterBlockedFromRecv).txTask = s.txTask := rfl
@[simp] theorem State.enterBlockedFromRecv_txPayload : (s.enterBlockedFromRecv).txPayload = s.txPayload := rfl
@[simp] theorem State.enterBlockedFromRecv_callerBuf : (s.enterBlockedFromRecv).callerBuf = s.callerBuf := rfl
@[simp] theorem State.enterBlockedFromRecv_trace : (s.enterBlockedFromRecv).trace = s.trace ++ [.isrEvt] := rfl
@[simp] theorem State.enterBlockedFromRecv_results : (s.enterBlockedFromRecv).results = s.results := rfl
@[simp] theorem State.enterBlockedFromRecv_freeCtr : (s.enterBlockedFromRecv).freeCtr = s.freeCtr := rfl
@[simp] theorem State.enterBlockedFromRecv_pending : (s.enterBlockedFromRecv).pending = s.pending := rfl

/-! ## `enterBlockedCommon` -/

@[simp] theorem State.enterBlockedCommon_link (l : LinkState) : (s.enterBlockedCommon l).link = s.link := rfl
@[simp] theorem State.enterBlockedCommon_flags (l : LinkState) : (s.enterBlockedCommon l).flags = s.flags := rfl
@[simp] theorem State.enterBlockedCommon_options (l : LinkState) : (s.enterBlockedCommon l).options = s.options := rfl
@[simp] theorem State.enterBlockedCommon_mac (l : LinkState) : (s.enterBlockedCommon l).mac = s.mac := rfl
@[simp] theorem State.enterBlockedCommon_rxBuf (l : LinkState) : (s.enterBlockedCommon l).rxBuf = s.rxBuf := rfl
@[simp] theorem State.enterBlockedCommon_rxLen (l : LinkState) : (s.enterBlockedCommon l).rxLen = s.rxLen := rfl
@[simp] theorem State.enterBlockedCommon_lastOctet (l : LinkState) : (s.enterBlockedCommon l).lastOctet = s.lastOctet := rfl
@[simp] theorem State.enterBlockedCommon_timeoutTicks (l : LinkState) : (s.enterBlockedCommon l).timeoutTicks = s.timeoutTicks := rfl
@[simp] theorem State.enterBlockedCommon_gpioIrqEn (l : LinkState) : (s.enterBlockedCommon l).gpioIrqEn = true := rfl
@[simp] theorem State.enterBlockedCommon_tmrArmed (l : LinkState) : (s.enterBlockedCommon l).tmrArmed = true := rfl
@[simp] theorem State.enterBlockedCommon_tmrDur (l : LinkState) : (s.enterBlockedCommon l).tmrDur = s.backoff l := rfl
@[simp] theorem State.enterBlockedCommon_txPhase (l : LinkState) : (s.enterBlockedCommon l).txPhase = s.txPhase := rfl
@[simp] theorem State.enterBlockedCommon_txRetries (l : LinkState) : (s.enterBlockedCommon l).txRetries = s.txRetries := rfl
@[simp] theorem State.enterBlockedCommon_txCrc (l : LinkState) : (s.enterBlockedCommon l).txCrc = s.txCrc := rfl
@[simp] theorem State.enterBlockedCommon_txPos (l : LinkState) : (s.enterBlockedCommon l).txPos = s.txPos := rfl
@[simp] theorem State.enterBlockedCommon_txSub (l : LinkState) : (s.enterBlockedCommon l).txSub = s.txSub := rfl
@[simp] theorem State.enterBlockedCommon_txExpect (l : LinkState) : (s.enterBlockedCommon l).txExpect = s.txExpect := rfl
@[simp] theorem State.enterBlockedCommon_txTask (l : LinkState) : (s.enterBlockedCommon l).txTask = s.txTask := rfl
@[simp] theorem State.enterBlockedCommon_txPayload (l : LinkState) : (s.enterBlockedCommon l).txPayload = s.txPayload := rfl
@[simp] theorem State.enterBlockedCommon_callerBuf (l : LinkState) : (s.enterBlockedCommon l).callerBuf = s.callerBuf := rfl
@[simp] theorem State.enterBlockedCommon_trace (l : LinkState) : (s.enterBlockedCommon l).trace = s.trace := rfl
@[simp] theorem State.enterBlockedCommon_results (l : LinkState) : (s.enterBlockedCommon l).results = s.results := rfl
@[simp] theorem State.enterBlockedCommon_freeCtr (l : LinkState) : (s.enterBlockedCommon l).freeCtr = s.freeCtr + 1 := rfl
@[simp] theorem State.enterBlockedCommon_pending (l : LinkState) : (s.enterBlockedCommon l).pending = s.pending := rfl

/-! ## `startAttempt` -/

@[simp] theorem State.startAttempt_link : (s.startAttempt).link = s.link := rfl
@[simp] theorem State.startAttempt_flags : (s.startAttempt).flags = s.flags := rfl
@[simp] theorem State.startAttempt_options : (s.startAttempt).options = s.options := rfl
@[simp] theorem State.startAttempt_mac : (s.startAttempt).mac = s.mac := rfl
@[simp] theorem State.startAttempt_rxBuf : (s.startAttempt).rxBuf = s.rxBuf := rfl
@[simp] theorem State.startAttempt_rxLen : (s.startAttempt).rxLen = s.rxLen := rfl
@[simp] theorem State.startAttempt_lastOctet : (s.startAttempt).lastOctet = s.lastOctet := rfl
@[simp] theorem State.startAttempt_timeoutTicks : (s.startAttempt).timeoutTicks = s.timeoutTicks := rfl
@[simp] theorem State.startAttempt_gpioIrqEn : (s.startAttempt).gpioIrqEn = s.gpioIrqEn := rfl
@[simp] theorem State.startAttempt_tmrArmed : (s.startAttempt).tmrArmed = s.tmrArmed := rfl
@[simp] theorem State.startAttempt_tmrDur : (s.startAttempt).tmrDur = s.tmrDur := rfl
@[simp] theorem State.startAttempt_txPhase : (s.startAttempt).txPhase = .waitIdle := rfl
@[simp] theorem State.startAttempt_txRetries : (s.startAttempt).txRetries = s.txRetries := rfl
@[simp] theorem State.startAttempt_txCrc : (s.startAttempt).txCrc = Config.crcSeed := rfl
@[simp] theorem State.startAttempt_txPos : (s.startAttempt).txPos = 0 := rfl
@[simp] theorem State.startAttempt_txSub : (s.startAttempt).txSub = false := rfl
@[simp] theorem State.startAttempt_txExpect : (s.startAttempt).txExpect = s.txExpect := rfl
@[simp] theorem State.startAttempt_txTask : (s.startAttempt).txTask = s.txTask := rfl
@[simp] theorem State.startAttempt_txPayload : (s.startAttempt).txPayload = s.txPayload := rfl
@[simp] theorem State.startAttempt_callerBuf : (s.startAttempt).callerBuf = s.callerBuf := rfl
@[simp] theorem State.startAttempt_trace : (s.startAttempt).trace = s.trace := rfl
@[simp] theorem State.startAttempt_results : (s.startAttempt).results = s.results := rfl
@[simp] theorem State.startAttempt_freeCtr : (s.startAttempt).freeCtr = s.freeCtr := rfl
@[simp] theorem State.startAttempt_pending : (s.startAttempt).pending = s.pending := rfl

/-! ## `txReturn` -/

@[simp] theorem State.txReturn_link (r : OpResult) : (s.txReturn r).link = s.link := rfl
@[simp] theorem State.txReturn_flags (r : OpResult) : (s.txReturn r).flags = s.flags := rfl
@[simp] theorem State.txReturn_options (r : OpResult) : (s.txReturn r).options = s.options := rfl
@[simp] theorem State.txReturn_mac (r : OpResult) : (s.txReturn r).mac = s.mac := rfl
@[simp] theorem State.txReturn_rxBuf (r : OpResult) : (s.txReturn r).rxBuf = s.rxBuf := rfl
@[simp] theorem State.txReturn_rxLen (r : OpResult) : (s.txReturn r).rxLen = s.rxLen := rfl
@[simp] theorem State.txReturn_lastOctet (r : OpResult) : (s.txReturn r).lastOctet = s.lastOctet := rfl
@[simp] theorem State.txReturn_timeoutTicks (r : OpResult) : (s.txReturn r).timeoutTicks = s.timeoutTicks := rfl
@[simp] theorem State.txReturn_gpioIrqEn (r : OpResult) : (s.txReturn r).gpioIrqEn = s.gpioIrqEn := rfl
@[simp] theorem State.txReturn_tmrArmed (r : OpResult) : (s.txReturn r).tmrArmed = s.tmrArmed := rfl
@[simp] theorem State.txReturn_tmrDur (r : OpResult) : (s.txReturn r).tmrDur = s.tmrDur := rfl
@[simp] theorem State.txReturn_txPhase (r : OpResult) : (s.txReturn r).txPhase = .off := rfl
@[simp] theorem State.txReturn_txRetries (r : OpResult) : (s.txReturn r).txRetries = s.txRetries := rfl
@[simp] theorem State.txReturn_txCrc (r : OpResult) : (s.txReturn r).txCrc = s.txCrc := rfl
@[simp] theorem State.txReturn_txPos (r : OpResult) : (s.txReturn r).txPos = s.txPos := rfl
@[simp] theorem State.txReturn_txSub (r : OpResult) : (s.txReturn r).txSub = s.txSub := rfl
@[simp] theorem State.txReturn_txExpect (r : OpResult) : (s.txReturn r).txExpect = s.txExpect := rfl
@[simp] theorem State.txReturn_txTask (r : OpResult) : (s.txReturn r).txTask = s.txTask := rfl
@[simp] theorem State.txReturn_txPayload (r : OpResult) : (s.txReturn r).txPayload = s.txPayload := rfl
@[simp] theorem State.txReturn_callerBuf (r : OpResult) : (s.txReturn r).callerBuf = s.callerBuf := rfl
@[simp] theorem State.txReturn_trace (r : OpResult) : (s.txReturn r).trace = s.trace := rfl
@[simp] theorem State.txReturn_results (r : OpResult) : (s.txReturn r).results = s.results ++ [r] := rfl
@[simp] theorem State.txReturn_freeCtr (r : OpResult) : (s.txReturn r).freeCtr = s.freeCtr := rfl
@[simp] theorem State.txReturn_pending (r : OpResult) : (s.txReturn r).pending = s.pending := rfl

/-! ## `putOctet` -/

@[simp] theorem State.putOctet_link (o : Byte) : (s.putOctet o).link = s.link := rfl
@[simp] theorem State.putOctet_flags (o : Byte) : (s.putOctet o).flags = s.flags := rfl
@[simp] theorem State.putOctet_options (o : Byte) : (s.putOctet o).options = s.options := rfl
@[simp] theorem State.putOctet_mac (o : Byte) : (s.putOctet o).mac = s.mac := rfl
@[simp] theorem State.putOctet_rxBuf (o : Byte) : (s.putOctet o).rxBuf = s.rxBuf := rfl
@[simp] theorem State.putOctet_rxLen (o : Byte) : (s.putOctet o).rxLen = s.rxLen := rfl
@[simp] theorem State.putOctet_lastOctet (o : Byte) : (s.putOctet o).lastOctet = s.lastOctet := rfl
@[simp] theorem State.putOctet_timeoutTicks (o : Byte) : (s.putOctet o).timeoutTicks = s.timeoutTicks := rfl
@[simp] theorem State.putOctet_gpioIrqEn (o : Byte) : (s.putOctet o).gpioIrqEn = s.gpioIrqEn := rfl
@[simp] theorem State.putOctet_tmrArmed (o : Byte) : (s.putOctet o).tmrArmed = s.tmrArmed := rfl
@[simp] theorem State.putOctet_tmrDur (o : Byte) : (s.putOctet o).tmrDur = s.tmrDur := rfl
@[simp] theorem State.putOctet_txPhase (o : Byte) : (s.putOctet o).txPhase = .waitEcho := rfl
@[simp] theorem State.putOctet_txRetries (o : Byte) : (s.putOctet o).txRetries = s.txRetries := rfl
@[simp] theorem State.putOctet_txCrc (o : Byte) : (s.putOctet o).txCrc = s.txCrc := rfl
@[simp] theorem State.putOctet_txPos (o : Byte) : (s.putOctet o).txPos = s.txPos := rfl
@[simp] theorem State.putOctet_txSub (o : Byte) : (s.putOctet o).txSub = s.txSub := rfl
@[simp] theorem State.putOctet_txExpect (o : Byte) : (s.putOctet o).txExpect = o := rfl
@[simp] theorem State.putOctet_txTask (o : Byte) : (s.putOctet o).txTask = s.txTask := rfl
@[simp] theorem State.putOctet_txPayload (o : Byte) : (s.putOctet o).txPayload = s.txPayload := rfl
@[simp] theorem State.putOctet_callerBuf (o : Byte) : (s.putOctet o).callerBuf = s.callerBuf := rfl
@[simp] theorem State.putOctet_trace (o : Byte) : (s.putOctet o).trace = s.trace ++ [.uartTx o] := rfl
@[simp] theorem State.putOctet_results (o : Byte) : (s.putOctet o).results = s.results := rfl
@[simp] theorem State.putOctet_freeCtr (o : Byte) : (s.putOctet o).freeCtr = s.freeCtr := rfl
@[simp] theorem State.putOctet_pending (o : Byte) : (s.putOctet o).pending = s.pending := rfl

end Sys2Proof.Machine
end

