-- ==== Sys2Proof/Laws/Apply.lean ====
section
/-! SUPPORT. What the shared operations of the FSM and the sequencer can do, said once: the reaction to an echo, the
settling, the edges, `Apply`. -/

namespace Sys2Proof.Machine

/-- Everything the sequencer's reaction can change: its own registers but `tx_expect`, and the returned values, which
only grow. -/
theorem State.echo_eq (s : State) (l : LinkState) :
    ∃ p n c k b r, s.results <+: r ∧ s.echo l =
      { s with txPhase := p, txRetries := n, txCrc := c, txPos := k, txSub := b, results := r } := by
  have same : s.results <+: s.results := List.prefix_rfl
  have more : ∀ r : OpResult, s.results <+: s.results ++ [r] := fun r => List.prefix_append _ _
  unfold State.echo State.txCollide State.txVerified
  split
  · split
    · split
      · split
        · exact ⟨_, _, _, _, _, _, more _, rfl⟩
        · exact ⟨_, _, _, _, _, _, same, rfl⟩
      all_goals exact ⟨_, _, _, _, _, _, more _, rfl⟩
    · split
      · split
        · split
          · exact ⟨_, _, _, _, _, _, more _, rfl⟩
          · exact ⟨_, _, _, _, _, _, same, rfl⟩
        all_goals exact ⟨_, _, _, _, _, _, more _, rfl⟩
      · split
        · exact ⟨_, _, _, _, _, _, same, rfl⟩
        · split
          · exact ⟨_, _, _, _, _, _, same, rfl⟩
          · exact ⟨_, _, _, _, _, _, same, rfl⟩
          all_goals exact ⟨_, _, _, _, _, _, more _, rfl⟩
  · exact ⟨_, _, _, _, _, _, same, rfl⟩

/-- Everything settling can change: the trace by one `TRANSITION`, and what the reaction changes. -/
theorem State.settle_eq (s : State) :
    ∃ p n c k b r, s.results <+: r ∧ s.settle =
      { s with trace := s.trace ++ [.transition s.link], txPhase := p, txRetries := n, txCrc := c, txPos := k,
               txSub := b, results := r } := by
  obtain ⟨p, n, c, k, b, r, hr, h⟩ := (s.emit (.transition s.link)).echo_eq s.link
  exact ⟨p, n, c, k, b, r, hr, by rw [State.settle, h]; rfl⟩

section Frames
variable (s : State) (l : LinkState)

@[simp] theorem State.echo_link : (s.echo l).link = s.link := by
  obtain ⟨_, _, _, _, _, _, _, h⟩ := s.echo_eq l
  rw [h]

@[simp] theorem State.echo_flags : (s.echo l).flags = s.flags := by
  obtain ⟨_, _, _, _, _, _, _, h⟩ := s.echo_eq l
  rw [h]

@[simp] theorem State.echo_options : (s.echo l).options = s.options := by
  obtain ⟨_, _, _, _, _, _, _, h⟩ := s.echo_eq l
  rw [h]

@[simp] theorem State.echo_mac : (s.echo l).mac = s.mac := by
  obtain ⟨_, _, _, _, _, _, _, h⟩ := s.echo_eq l
  rw [h]

@[simp] theorem State.echo_rxBuf : (s.echo l).rxBuf = s.rxBuf := by
  obtain ⟨_, _, _, _, _, _, _, h⟩ := s.echo_eq l
  rw [h]

@[simp] theorem State.echo_rxLen : (s.echo l).rxLen = s.rxLen := by
  obtain ⟨_, _, _, _, _, _, _, h⟩ := s.echo_eq l
  rw [h]

@[simp] theorem State.echo_lastOctet : (s.echo l).lastOctet = s.lastOctet := by
  obtain ⟨_, _, _, _, _, _, _, h⟩ := s.echo_eq l
  rw [h]

@[simp] theorem State.echo_timeoutTicks : (s.echo l).timeoutTicks = s.timeoutTicks := by
  obtain ⟨_, _, _, _, _, _, _, h⟩ := s.echo_eq l
  rw [h]

@[simp] theorem State.echo_gpioIrqEn : (s.echo l).gpioIrqEn = s.gpioIrqEn := by
  obtain ⟨_, _, _, _, _, _, _, h⟩ := s.echo_eq l
  rw [h]

@[simp] theorem State.echo_tmrArmed : (s.echo l).tmrArmed = s.tmrArmed := by
  obtain ⟨_, _, _, _, _, _, _, h⟩ := s.echo_eq l
  rw [h]

@[simp] theorem State.echo_tmrDur : (s.echo l).tmrDur = s.tmrDur := by
  obtain ⟨_, _, _, _, _, _, _, h⟩ := s.echo_eq l
  rw [h]

@[simp] theorem State.echo_txExpect : (s.echo l).txExpect = s.txExpect := by
  obtain ⟨_, _, _, _, _, _, _, h⟩ := s.echo_eq l
  rw [h]

@[simp] theorem State.echo_txTask : (s.echo l).txTask = s.txTask := by
  obtain ⟨_, _, _, _, _, _, _, h⟩ := s.echo_eq l
  rw [h]

@[simp] theorem State.echo_txPayload : (s.echo l).txPayload = s.txPayload := by
  obtain ⟨_, _, _, _, _, _, _, h⟩ := s.echo_eq l
  rw [h]

@[simp] theorem State.echo_callerBuf : (s.echo l).callerBuf = s.callerBuf := by
  obtain ⟨_, _, _, _, _, _, _, h⟩ := s.echo_eq l
  rw [h]

@[simp] theorem State.echo_trace : (s.echo l).trace = s.trace := by
  obtain ⟨_, _, _, _, _, _, _, h⟩ := s.echo_eq l
  rw [h]

@[simp] theorem State.echo_freeCtr : (s.echo l).freeCtr = s.freeCtr := by
  obtain ⟨_, _, _, _, _, _, _, h⟩ := s.echo_eq l
  rw [h]

@[simp] theorem State.echo_pending : (s.echo l).pending = s.pending := by
  obtain ⟨_, _, _, _, _, _, _, h⟩ := s.echo_eq l
  rw [h]

end Frames

section Settled
variable (s : State)

@[simp] theorem State.settle_link : s.settle.link = s.link := by
  simp [State.settle]

@[simp] theorem State.settle_flags : s.settle.flags = s.flags := by
  simp [State.settle]

@[simp] theorem State.settle_options : s.settle.options = s.options := by
  simp [State.settle]

@[simp] theorem State.settle_mac : s.settle.mac = s.mac := by
  simp [State.settle]

@[simp] theorem State.settle_rxBuf : s.settle.rxBuf = s.rxBuf := by
  simp [State.settle]

@[simp] theorem State.settle_rxLen : s.settle.rxLen = s.rxLen := by
  simp [State.settle]

@[simp] theorem State.settle_lastOctet : s.settle.lastOctet = s.lastOctet := by
  simp [State.settle]

@[simp] theorem State.settle_timeoutTicks : s.settle.timeoutTicks = s.timeoutTicks := by
  simp [State.settle]

@[simp] theorem State.settle_gpioIrqEn : s.settle.gpioIrqEn = s.gpioIrqEn := by
  simp [State.settle]

@[simp] theorem State.settle_tmrArmed : s.settle.tmrArmed = s.tmrArmed := by
  simp [State.settle]

@[simp] theorem State.settle_tmrDur : s.settle.tmrDur = s.tmrDur := by
  simp [State.settle]

@[simp] theorem State.settle_txExpect : s.settle.txExpect = s.txExpect := by
  simp [State.settle]

@[simp] theorem State.settle_txTask : s.settle.txTask = s.txTask := by
  simp [State.settle]

@[simp] theorem State.settle_txPayload : s.settle.txPayload = s.txPayload := by
  simp [State.settle]

@[simp] theorem State.settle_callerBuf : s.settle.callerBuf = s.callerBuf := by
  simp [State.settle]

@[simp] theorem State.settle_trace : s.settle.trace = s.trace ++ [.transition s.link] := by
  simp [State.settle]

@[simp] theorem State.settle_freeCtr : s.settle.freeCtr = s.freeCtr := by
  simp [State.settle]

@[simp] theorem State.settle_pending : s.settle.pending = s.pending := by
  simp [State.settle]

end Settled

/-- With no echo awaited the reaction is nothing. -/
theorem State.echo_idle {s : State} (l : LinkState) (h : s.txPhase ≠ .waitEcho) : s.echo l = s := by
  simp [State.echo, h]

/-- With no echo awaited settling only emits. -/
theorem State.settle_idle {s : State} (h : s.txPhase ≠ .waitEcho) :
    s.settle = s.emit (.transition s.link) := by
  exact State.echo_idle _ h

/-- The ten edges: what a signal can do before settling. -/
theorem State.edge_cases {s t : State} {sig : Signal} (h : s.edge sig = some t) :
    (s.link = .undef ∧ sig = .init ∧ t = { s.enterBlocked .undef with link := .blocked }) ∨
    (s.link = .blocked ∧ sig = .xtimer ∧ t = { s with link := .idle }) ∨
    ((s.link = .blocked ∨ s.link = .idle) ∧ sig = .gpio ∧ t = { s.enterRecvFresh with link := .recv }) ∨
    (s.link = .idle ∧ sig = .send ∧ t = { s.enterSend with link := .send }) ∨
    (s.link = .recv ∧ sig = .uart ∧ t = s.recvOctet) ∨
    (s.link = .recv ∧ sig = .xtimer ∧ t = { s.enterBlocked .recv with link := .blocked }) ∨
    (s.link = .send ∧ sig = .uart ∧ t = s.enterSend) ∨
    (s.link = .send ∧ (sig = .xtimer ∨ sig = .endTx) ∧ t = { s.enterBlocked .send with link := .blocked }) := by
  unfold State.edge at h
  split at h <;> simp_all

/-- The three verdicts in `RECV`. -/
theorem State.recvOctet_cases (s : State) :
    s.recvOctet = { s with flags := { s.flags with esc := true } }.arm s.timeoutTicks ∨
    s.recvOctet =
      { ({ s with flags := { s.flags with endSeen := true } }).enterBlocked .recv with link := .blocked } ∨
    s.recvOctet = (s.append s.lastOctet).arm s.timeoutTicks := by
  unfold State.recvOctet decVerdict
  split <;> rename_i h <;> split at h <;> simp_all
  split at h <;> simp_all

/-- `Apply` runs an edge and settles, or changes nothing. -/
theorem State.apply_cases (s : State) (sig : Signal) :
    (∃ t, s.edge sig = some t ∧ s.apply sig = t.settle) ∨ (s.edge sig = none ∧ s.apply sig = s) := by
  unfold State.apply
  split
  · exact .inl ⟨_, ‹_›, rfl⟩
  · exact .inr ⟨‹_›, rfl⟩

/-- A draw lies in its interval when the interval is not empty. -/
theorem drawIn_bounds {lo hi : Nat} (n : Nat) (h : lo < hi) : lo ≤ drawIn lo hi n ∧ drawIn lo hi n < hi := by
  have : Config.backoffChoice n % (hi - lo) < hi - lo := Nat.mod_lt _ (by omega)
  unfold drawIn
  omega

/-- The long back-off (42_fsm.md R151). -/
theorem State.backoffSend_bounds (s : State) (h : 1 ≤ s.timeoutTicks) :
    s.timeoutTicks ≤ s.backoffSend ∧ s.backoffSend < 2 * s.timeoutTicks :=
  drawIn_bounds _ (by omega)

/-- The short back-off (42_fsm.md R152). -/
theorem State.backoffShort_bounds (s : State) (h : 1 ≤ s.timeoutTicks) :
    s.timeoutTicks / 10 ≤ s.backoffShort ∧ s.backoffShort < s.timeoutTicks :=
  drawIn_bounds _ (by omega)

end Sys2Proof.Machine
end

