-- ==== Sys2Proof/Laws/Exec.lean ====
section
/-! SUPPORT. Everything an operation that answers a next state can do, said once: the provers take `exec` apart through
`exec_effect` and never unfold its arms. -/

namespace Sys2Proof.Machine

/-- The next states of an operation, with what the registers must hold for each. -/
inductive Effect (i : Instr) (s : State) : State → Prop
  /-- Nothing happens: a refused code, an edge code of another state, a masked edge, a timer that is not armed, a
  spurious `ISR`. -/
  | nothing : Effect i s s
  /-- An octet arrives (42_fsm.md R143). -/
  | octet (o : Byte) (hi : Arrives i o) : Effect i s (s.uartReceive o)
  /-- The row of an edge in its state (R141). -/
  | edge (at_ : LinkState) (sig : Signal) (hi : (at_, sig, i) ∈ edgeRows) (hs : s.link = at_) : Effect i s (s.apply sig)
  /-- `APPLY` of a signal (R141). -/
  | apply (sig : Signal) (hi : i = .apply sig.code) : Effect i s ((s.apply sig).answer (.link (s.apply sig).link))
  /-- A falling edge that the mask lets through (R144). -/
  | gpio (hi : i = .gpioFall) (hs : s.gpioIrqEn = true) : Effect i s (s.apply .gpio)
  /-- The armed timer expires (R145). -/
  | timer (hi : i = .timerFire) (hs : s.tmrArmed = true) : Effect i s ({ s with tmrArmed := false }.apply .xtimer)
  /-- A value is returned and no register written. -/
  | value (r : OpResult) : Effect i s (s.answer r)
  /-- `DEC` (41_codec.md R133). -/
  | dec (o : Byte) (hi : i = .dec o) :
      Effect i s ({ s with flags := { s.flags with esc := decEsc s.flags.esc o } }.answer
        (.decoded (decVerdict s.flags.esc o)))
  /-- `SET.PROMISCUOUSMODE` (45_config.md R235). -/
  | setPromisc (v : PromiscArg) (b : Bool) (hi : i = .setPromiscuousMode v) : Effect i s (s.setPromisc b)
  /-- `INIT` (R231). -/
  | init (hi : i = .init) :
      Effect i s (({ s.clearBuffer with link := .undef }.apply .init).answer (.status 0))
  /-- `CLEARRX`, or an `ISR` that drops (43_receive.md R181, R182). -/
  | clear (hi : i = .clearRx ∨ i = .isr) : Effect i s s.clearBuffer
  /-- An `ISR` that validates (R193). -/
  | complete (octets : List Byte) (hi : i = .isr) (hd : s.flags.dirty = true) (he : s.flags.endSeen = true)
      (hl : Config.minFrame ≤ s.rxLen) (hr : s.readRxFrom 0 s.rxLen = .ok octets)
      (ha : s.addressPasses octets = true) (hc : crcCheck octets = true) : Effect i s (s.emit .rxComplete)
  /-- `RECV.DROP` (R189). -/
  | discard (n : Nat) (hi : i = .recvDrop n) (hw : s.recvWindow = true) : Effect i s s.recvDiscard
  /-- `RECV` with a buffer too small (R190). -/
  | tooSmall (n : Nat) (hi : i = .recvShort n ∨ i = .recvCopy n) (hw : s.recvWindow = true) (hn : n < s.frameSize) :
      Effect i s s.recvTooSmall
  /-- `RECV` with a buffer large enough (R191). -/
  | copied (n : Nat) (octets : List Byte) (hi : i = .recvShort n ∨ i = .recvCopy n) (hw : s.recvWindow = true)
      (hn : s.frameSize ≤ n) (hr : s.readRxFrom 0 s.frameSize = .ok octets) : Effect i s (s.recvCopied octets)
  /-- The entry actions issued by themselves (42_fsm.md R149, R150, R153, R160). -/
  | enterBlocked (origin : LinkState) (hi : i = .enterBlocked origin) : Effect i s (s.enterBlocked origin)
  | enterBlockedFromRecv (hi : i = .enterBlockedFromRecv) : Effect i s s.enterBlockedFromRecv
  | enterRecv (hi : i = .enterRecv) : Effect i s s.enterRecvFresh
  | enterSend (hi : i = .enterSend) : Effect i s s.enterSend
  /-- A back-off is drawn and returned (R151, R152). -/
  | draw (b : Nat) (hi : i = .backoffFromSend ∨ i = .backoffOther) : Effect i s (s.answer (.backoff b)).useFree
  /-- A procedure of the sequencer starts (44_send.md R203 to R207). -/
  | startSend (p : List Byte) (hi : i = .send p) (hs : s.txPhase = .off) :
      Effect i s { s with txTask := .send, txPayload := p, txRetries := Config.maxRetries }.startAttempt
  | startFrame (p : List Byte) (hi : i = .txFrame p) (hs : s.txPhase = .off) :
      Effect i s { s with txTask := .frame, txPayload := p }.startAttempt
  | startData (c : Byte) (hi : i = .txData c) (hs : s.txPhase = .off) :
      Effect i s ({ s with txTask := .data c, txSub := false }.putOctet
        (if isReserved c then Config.escOctet else c))
  | startOct (c : Byte) (hi : i = .txOct c) (hs : s.txPhase = .off) :
      Effect i s ({ s with txTask := .oct c }.putOctet c)
  /-- A step of the sequencer (R206). -/
  | act (hi : i = .txStep) : Effect i s s.txAct
  /-- The echo reaction (R212). -/
  | echo (l : LinkState) (hi : i = .txEcho l) : Effect i s (s.echo l)

/-- The steps of the sequencer by phase (44_send.md R206). -/
theorem State.txAct_cases (s : State) :
    s.txAct = s ∨
    (s.txPhase = .waitIdle ∧ s.link = .idle ∧ s.txAct = { s with txPhase := .request }) ∨
    (s.txPhase = .request ∧ s.txAct = s.txRequest) ∨
    (s.txPhase = .put ∧ s.txAct = s.putOctet s.txNextOctet) ∨
    (s.txPhase = .finish ∧ s.txAct = (s.apply .endTx).txReturn s.txDone) := by
  unfold State.txAct
  split <;> simp_all
  split <;> simp_all

/-- A step runs one operation on the state without its packet, or there is nothing to run. -/
theorem step_cases {s t : State} (h : step s = .next t) :
    (s.pending = [] ∧ t = s) ∨
    ∃ packet rest i, s.pending = packet :: rest ∧ decode packet = .ok i ∧ exec i { s with pending := rest } = .next t := by
  unfold step at h
  split at h
  · cases h
    exact .inl ⟨‹_›, rfl⟩
  · split at h
    · exact .inr ⟨_, _, _, ‹_›, ‹_›, h⟩
    · cases h

/-- A signal's code stands for that signal only. -/
theorem Signal.ofCode_eq_some {c : BitVec 4} {sig : Signal} (h : Signal.ofCode c = some sig) : c = sig.code := by
  unfold Signal.ofCode at h
  repeat' split at h
  all_goals simp_all
  all_goals subst h; rfl

theorem edge_effect {i : Instr} {s : State} (at_ : LinkState) (sig : Signal) (hi : (at_, sig, i) ∈ edgeRows) :
    Effect i s (s.applyAt at_ sig) := by
  unfold State.applyAt
  split
  · exact .edge at_ sig hi ‹_›
  · exact .nothing

theorem recvInto_effect {i : Instr} {s t : State} {n : Nat} (hi : i = .recvShort n ∨ i = .recvCopy n)
    (h : (if s.recvWindow then s.recvInto n else .refused .recvOutsideWindow) = .next t) : Effect i s t := by
  unfold State.recvInto at h
  split at h
  · split at h
    · cases h
      exact .tooSmall n hi ‹_› ‹_›
    · split at h
      · cases h
      · cases h
        exact .copied n _ hi ‹_› (by omega) ‹_›
  · cases h

theorem isr_effect {s t : State} (h : execIsr s = .next t) : Effect .isr s t := by
  unfold execIsr at h
  split at h
  · cases h
    exact .nothing
  · split at h
    · cases h
      exact .clear (.inr rfl)
    · split at h
      · cases h
        exact .clear (.inr rfl)
      · split at h
        · cases h
        · cases h
          unfold State.validate
          split
          · exact .clear (.inr rfl)
          · split
            · exact .clear (.inr rfl)
            · exact .complete _ rfl (by simp_all) (by simp_all) (by omega) ‹_› (by simp_all) (by simp_all)

theorem startTx_effect {i : Instr} {s t u : State} (hu : s.txPhase = .off → Effect i s u)
    (h : s.startTx u = .next t) : Effect i s t := by
  unfold State.startTx at h
  split at h
  · cases h
    exact hu ‹_›
  · cases h

/-- Everything an operation that answers a next state can do. -/
theorem exec_effect {i : Instr} {s t : State} (h : exec i s = .next t) : Effect i s t := by
  cases i
  case wireEsc => cases h; exact .octet _ (.inl ⟨rfl, rfl⟩)
  case wireEnd => cases h; exact .octet _ (.inr (.inl ⟨rfl, rfl⟩))
  case wireData => cases h; exact .octet _ (.inr (.inr (.inl rfl)))
  case uartRx => cases h; exact .octet _ (.inr (.inr (.inr rfl)))
  case undefInit => cases h; exact edge_effect .undef .init (by simp [edgeRows])
  case blockedGpio => cases h; exact edge_effect .blocked .gpio (by simp [edgeRows])
  case blockedXtimer => cases h; exact edge_effect .blocked .xtimer (by simp [edgeRows])
  case idleGpio => cases h; exact edge_effect .idle .gpio (by simp [edgeRows])
  case idleSend => cases h; exact edge_effect .idle .send (by simp [edgeRows])
  case recvUartEsc => cases h; exact edge_effect .recv .uart (by simp [edgeRows])
  case recvUartEnd => cases h; exact edge_effect .recv .uart (by simp [edgeRows])
  case recvUartData => cases h; exact edge_effect .recv .uart (by simp [edgeRows])
  case recvXtimer => cases h; exact edge_effect .recv .xtimer (by simp [edgeRows])
  case sendUart => cases h; exact edge_effect .send .uart (by simp [edgeRows])
  case sendXtimer => cases h; exact edge_effect .send .xtimer (by simp [edgeRows])
  case sendEnd => cases h; exact edge_effect .send .endTx (by simp [edgeRows])
  case refused => cases h; exact .nothing
  case init => cases h; exact .init rfl
  case send p => exact startTx_effect (.startSend p rfl) h
  case txFrame p => exact startTx_effect (.startFrame p rfl) h
  case txData c => exact startTx_effect (.startData c rfl) h
  case txOct c => exact startTx_effect (.startOct c rfl) h
  case isr => exact isr_effect h
  case recvSize =>
    simp only [exec, execRecvSize] at h
    split at h <;> cases h
    exact .value _
  case recvDrop n =>
    simp only [exec, execRecvDrop] at h
    split at h <;> cases h
    exact .discard n rfl ‹_›
  case recvShort n => exact recvInto_effect (.inl rfl) h
  case recvCopy n => exact recvInto_effect (.inr rfl) h
  case getAddress =>
    simp only [exec, execGetAddress] at h
    split at h <;> cases h
    exact .value _
  case getPromiscuousMode => cases h; exact .value _
  case getOther => cases h; exact .value _
  case setPromiscuousMode v =>
    cases v <;> cases h
    · exact .setPromisc _ true rfl
    · exact .setPromisc _ false rfl
  case setOther => cases h; exact .value _
  case crc16Update => cases h; exact .value _
  case crc16Frame => cases h; exact .value _
  case crc16Check => cases h; exact .value _
  case enc => cases h; exact .value _
  case encSeq => cases h; exact .value _
  case dec o => cases h; exact .dec o rfl
  case decSeq => cases h; exact .value _
  case wireFrame => cases h; exact .value _
  case apply c =>
    simp only [exec, execApply] at h
    split at h <;> cases h
    · rename_i hc
      exact .apply _ (by rw [Signal.ofCode_eq_some hc])
    · exact .value _
  case enterBlocked origin => cases h; exact .enterBlocked origin rfl
  case enterBlockedFromRecv => cases h; exact .enterBlockedFromRecv rfl
  case backoffFromSend => cases h; exact .draw _ (.inl rfl)
  case backoffOther => cases h; exact .draw _ (.inr rfl)
  case enterRecv => cases h; exact .enterRecv rfl
  case enterSend => cases h; exact .enterSend rfl
  case clearRx => cases h; exact .clear (.inl rfl)
  case txStep => cases h; exact .act rfl
  case txEcho l => cases h; exact .echo l rfl
  case gpioFall =>
    simp only [exec, execGpioFall] at h
    split at h <;> cases h
    · exact .gpio rfl ‹_›
    · exact .nothing
  case timerFire =>
    simp only [exec, execTimerFire] at h
    split at h <;> cases h
    · exact .timer rfl ‹_›
    · exact .nothing

end Sys2Proof.Machine
end

