-- ==== Sys2Proof/Laws/Memory.lean ====
section
/-! SUPPORT. What the memory operations do: read after write, the canonical form, and reading a range of `rx_buf`. -/

namespace Sys2Proof.Machine

theorem Memory.read_write_same (m : Memory) (a : Nat) (o : Byte) : (m.write a o).read a = some o := by
  induction m with
  | nil => simp [Memory.write, Memory.read]
  | cons c m ih =>
    unfold Memory.write
    split
    · simp [Memory.read]
    · split
      · simp [Memory.read]
      · have h : c.1 ≠ a := fun h => by simp_all
        simp [Memory.read, h, ih]

theorem Memory.read_write_other (m : Memory) {a b : Nat} (o : Byte) (h : b ≠ a) :
    (m.write a o).read b = m.read b := by
  induction m with
  | nil => simp [Memory.write, Memory.read, h.symm]
  | cons c m ih =>
    unfold Memory.write
    split
    · simp [Memory.read, h.symm]
    · split
      · rename_i h2
        have h3 : c.1 ≠ b := fun e => h (e.symm.trans h2.symm)
        simp [Memory.read, h.symm, h3]
      · simp [Memory.read, ih]

/-- The lowest listed address of a memory in canonical form bounds the others. -/
theorem Memory.wf_cons (c : Host.Cell) (m : Memory) :
    Memory.wf (c :: m) = true ↔ (∀ d ∈ m, c.1 < d.1) ∧ Memory.wf m = true := by
  induction m generalizing c with
  | nil => simp [Memory.wf]
  | cons d m ih =>
    constructor
    · intro h
      simp only [Memory.wf, Bool.and_eq_true, decide_eq_true_eq] at h
      refine ⟨fun e he => ?_, h.2⟩
      rcases List.mem_cons.1 he with rfl | he
      · exact h.1
      · exact lt_trans h.1 (((ih d).1 h.2).1 e he)
    · intro h
      simp only [Memory.wf, Bool.and_eq_true, decide_eq_true_eq]
      exact ⟨h.1 d (by simp), h.2⟩

theorem Memory.mem_write {m : Memory} {a : Nat} {o : Byte} {c : Host.Cell} (h : c ∈ m.write a o) :
    c = (a, o) ∨ c ∈ m := by
  induction m with
  | nil => simpa [Memory.write] using h
  | cons d m ih =>
    unfold Memory.write at h
    split at h
    · simpa using h
    · split at h
      · rcases List.mem_cons.1 h with h | h
        · exact .inl h
        · exact .inr (List.mem_cons_of_mem _ h)
      · rcases List.mem_cons.1 h with h | h
        · exact .inr (by simp [h])
        · rcases ih h with h | h
          · exact .inl h
          · exact .inr (List.mem_cons_of_mem _ h)

/-- A write keeps the canonical form. -/
theorem Memory.wf_write {m : Memory} (a : Nat) (o : Byte) (h : m.wf = true) : (m.write a o).wf = true := by
  induction m with
  | nil => simp [Memory.write, Memory.wf]
  | cons c m ih =>
    have hc := (Memory.wf_cons c m).1 h
    unfold Memory.write
    split
    · rename_i h1
      rw [Memory.wf_cons]
      refine ⟨fun d hd => ?_, h⟩
      rcases List.mem_cons.1 hd with rfl | hd
      · exact h1
      · exact lt_trans h1 (hc.1 d hd)
    · split
      · rename_i h2
        rw [Memory.wf_cons]
        exact ⟨fun d hd => by have := hc.1 d hd; simp only; omega, hc.2⟩
      · rename_i h1 h2
        rw [Memory.wf_cons]
        refine ⟨fun d hd => ?_, ih hc.2⟩
        rcases Memory.mem_write hd with rfl | hd
        · simp only; omega
        · exact hc.1 d hd

theorem Memory.wf_writeAll {m : Memory} (a : Nat) (l : List Byte) (h : m.wf = true) :
    (m.writeAll a l).wf = true := by
  induction l generalizing m a with
  | nil => exact h
  | cons o l ih => exact ih (a + 1) (Memory.wf_write a o h)

/-- The memories after reset are in canonical form. -/
theorem State.reset_memories_wf : State.reset.rxBuf.wf = true ∧ State.reset.callerBuf.wf = true := ⟨rfl, rfl⟩

/-- Reading after a range was written: inside the range the written octets, outside what was there. -/
theorem Memory.read_writeAll (m : Memory) (a : Nat) (l : List Byte) (b : Nat) :
    (m.writeAll a l).read b = if a ≤ b ∧ b < a + l.length then l[b - a]? else m.read b := by
  induction l generalizing m a with
  | nil =>
    have h : ¬(a ≤ b ∧ b < a + ([] : List Byte).length) := by simp
    simp only [Memory.writeAll, h, if_false]
  | cons o l ih =>
    rw [Memory.writeAll, ih]
    by_cases h : b = a
    · subst h
      simp [Memory.read_write_same]
    · by_cases h2 : a + 1 ≤ b ∧ b < a + 1 + l.length
      · have h3 : a ≤ b ∧ b < a + (o :: l).length := by simp; omega
        have h4 : b - a = (b - (a + 1)) + 1 := by omega
        simp only [h2, h3, and_self, if_true, h4, List.getElem?_cons_succ]
      · have h3 : ¬(a ≤ b ∧ b < a + (o :: l).length) := by simp; omega
        simp only [h2, h3, if_false, Memory.read_write_other _ _ h]

/-! ## `rx_buf` -/

/-- An octet that has been written reads as it was written. -/
theorem State.rxOctet_of_read {s : State} {a : Nat} {o : Byte} (h : s.rxBuf.read a = some o) : s.rxOctet a = o := by
  simp [State.rxOctet, h]

/-- An octet that nothing has written reads as the reset content. -/
theorem State.rxOctet_of_unwritten {s : State} {a : Nat} (h : s.rxBuf.read a = none) :
    s.rxOctet a = Config.rxBufReset a := by
  simp [State.rxOctet, h]

/-- The octets of `rx_buf` depend on no other register. -/
theorem State.rxOctet_congr {s t : State} (h : t.rxBuf = s.rxBuf) (a : Nat) : t.rxOctet a = s.rxOctet a := by
  rw [State.rxOctet, h, State.rxOctet]

/-- After reset every octet reads as the reset content. -/
theorem State.reset_rxOctet (a : Nat) : State.reset.rxOctet a = Config.rxBufReset a := rfl

/-- The octets of `rx_buf` after one was written. -/
theorem State.rxOctet_write (s : State) (a b : Nat) (o : Byte) :
    ({ s with rxBuf := s.rxBuf.write a o } : State).rxOctet b = if b = a then o else s.rxOctet b := by
  split
  · subst b
    exact State.rxOctet_of_read (Memory.read_write_same _ _ _)
  · simp [State.rxOctet, Memory.read_write_other _ _ ‹_›]

/-- Everything reading a range inside the buffer can do: it answers the octets there, in order. -/
theorem State.readRxFrom_total (s : State) (a n : Nat) (hb : a + n ≤ Config.frameLen) :
    s.readRxFrom a n = .ok ((List.range' a n).map s.rxOctet) := by
  induction n generalizing a with
  | zero => rfl
  | succ n ih =>
    have hr : s.readRx a = .ok (s.rxOctet a) := by
      rw [State.readRx, if_neg (by omega)]
    simp only [State.readRxFrom, hr, ih (a + 1) (by omega), List.range'_succ, List.map_cons]

/-- Reading a range whose octets are known answers them. -/
theorem State.readRxFrom_eq (s : State) (a : Nat) (l : List Byte)
    (hb : a + l.length ≤ Config.frameLen) (h : ∀ k < l.length, some (s.rxOctet (a + k)) = l[k]?) :
    s.readRxFrom a l.length = .ok l := by
  rw [State.readRxFrom_total s a _ hb]
  congr 1
  refine List.ext_getElem (by simp) fun k hk _ => ?_
  have := h k (by simpa using hk)
  simp_all

/-- Reading looks at nothing but the octets of the range. -/
theorem State.readRxFrom_congr (s t : State) (a n : Nat)
    (h : ∀ k < n, t.rxOctet (a + k) = s.rxOctet (a + k)) : t.readRxFrom a n = s.readRxFrom a n := by
  induction n generalizing a with
  | zero => rfl
  | succ n ih =>
    have h0 : t.rxOctet a = s.rxOctet a := by simpa using h 0 (by omega)
    have ht := ih (a + 1) (fun k hk => by
      have := h (k + 1) (by omega)
      simpa [Nat.add_assoc, Nat.add_comm 1] using this)
    simp only [State.readRxFrom, State.readRx, h0, ht]

end Sys2Proof.Machine
end

