-- ==== Sys2Proof/Laws/PerInstr.lean ====
section
/-! SUPPORT. Per-operation lemmas: the packet of every operation names its format (30_encoding.md R90), so decoding it is
decoding in that format alone. -/

namespace Sys2Proof.Laws.EncodedFormat

/-- The decoder of a format. -/
def formatDecoder (f c : Byte) (ops : List Byte) : Except DecodeError Instr :=
  if f = 1 then decodeWire c ops else if f = 2 then decodeEdge c ops else if f = 3 then decodeHost c ops
  else decodeProc c ops

/-- The packet of an operation is a code, one of the four formats, and operands, and it is read in that format. -/
def Statement (i : Instr) : Prop :=
  ∃ c f ops, encode i = c :: f :: ops ∧ f ∈ ([1, 2, 3, 4] : List Byte) ∧ decode (encode i) = formatDecoder f c ops

theorem wireEsc : Statement .wireEsc := ⟨_, _, _, rfl, by decide, rfl⟩
theorem wireEnd : Statement .wireEnd := ⟨_, _, _, rfl, by decide, rfl⟩
theorem wireData : ∀ a, Statement (.wireData a) := fun _ => ⟨_, _, _, rfl, by decide, rfl⟩
theorem undefInit : Statement .undefInit := ⟨_, _, _, rfl, by decide, rfl⟩
theorem blockedGpio : Statement .blockedGpio := ⟨_, _, _, rfl, by decide, rfl⟩
theorem blockedXtimer : Statement .blockedXtimer := ⟨_, _, _, rfl, by decide, rfl⟩
theorem idleGpio : Statement .idleGpio := ⟨_, _, _, rfl, by decide, rfl⟩
theorem idleSend : Statement .idleSend := ⟨_, _, _, rfl, by decide, rfl⟩
theorem recvUartEsc : Statement .recvUartEsc := ⟨_, _, _, rfl, by decide, rfl⟩
theorem recvUartEnd : Statement .recvUartEnd := ⟨_, _, _, rfl, by decide, rfl⟩
theorem recvUartData : Statement .recvUartData := ⟨_, _, _, rfl, by decide, rfl⟩
theorem recvXtimer : Statement .recvXtimer := ⟨_, _, _, rfl, by decide, rfl⟩
theorem sendUart : Statement .sendUart := ⟨_, _, _, rfl, by decide, rfl⟩
theorem sendXtimer : Statement .sendXtimer := ⟨_, _, _, rfl, by decide, rfl⟩
theorem sendEnd : Statement .sendEnd := ⟨_, _, _, rfl, by decide, rfl⟩
theorem refused : ∀ a b, Statement (.refused a b) := fun _ _ => ⟨_, _, _, rfl, by decide, rfl⟩
theorem init : Statement .init := ⟨_, _, _, rfl, by decide, rfl⟩
theorem send : ∀ a, Statement (.send a) := fun _ => ⟨_, _, _, rfl, by decide, rfl⟩
theorem isr : Statement .isr := ⟨_, _, _, rfl, by decide, rfl⟩
theorem recvSize : Statement .recvSize := ⟨_, _, _, rfl, by decide, rfl⟩
theorem recvDrop : ∀ a, Statement (.recvDrop a) := fun _ => ⟨_, _, _, rfl, by decide, rfl⟩
theorem recvShort : ∀ a, Statement (.recvShort a) := fun _ => ⟨_, _, _, rfl, by decide, rfl⟩
theorem recvCopy : ∀ a, Statement (.recvCopy a) := fun _ => ⟨_, _, _, rfl, by decide, rfl⟩
theorem getAddress : ∀ a, Statement (.getAddress a) := fun _ => ⟨_, _, _, rfl, by decide, rfl⟩
theorem getPromiscuousMode : Statement .getPromiscuousMode := ⟨_, _, _, rfl, by decide, rfl⟩
theorem getOther : ∀ a, Statement (.getOther a) := fun _ => ⟨_, _, _, rfl, by decide, rfl⟩
theorem setPromiscuousMode : ∀ a, Statement (.setPromiscuousMode a) := fun _ => ⟨_, _, _, rfl, by decide, rfl⟩
theorem setOther : ∀ a b, Statement (.setOther a b) := fun _ _ => ⟨_, _, _, rfl, by decide, rfl⟩
theorem crc16Update : ∀ a b, Statement (.crc16Update a b) := fun _ _ => ⟨_, _, _, rfl, by decide, rfl⟩
theorem crc16Frame : ∀ a, Statement (.crc16Frame a) := fun _ => ⟨_, _, _, rfl, by decide, rfl⟩
theorem crc16Check : ∀ a, Statement (.crc16Check a) := fun _ => ⟨_, _, _, rfl, by decide, rfl⟩
theorem enc : ∀ a, Statement (.enc a) := fun _ => ⟨_, _, _, rfl, by decide, rfl⟩
theorem encSeq : ∀ a, Statement (.encSeq a) := fun _ => ⟨_, _, _, rfl, by decide, rfl⟩
theorem dec : ∀ a, Statement (.dec a) := fun _ => ⟨_, _, _, rfl, by decide, rfl⟩
theorem decSeq : ∀ a, Statement (.decSeq a) := fun _ => ⟨_, _, _, rfl, by decide, rfl⟩
theorem wireFrame : ∀ a, Statement (.wireFrame a) := fun _ => ⟨_, _, _, rfl, by decide, rfl⟩
theorem apply : ∀ a, Statement (.apply a) := fun _ => ⟨_, _, _, rfl, by decide, rfl⟩
theorem enterBlocked : ∀ a, Statement (.enterBlocked a) := fun _ => ⟨_, _, _, rfl, by decide, rfl⟩
theorem enterBlockedFromRecv : Statement .enterBlockedFromRecv := ⟨_, _, _, rfl, by decide, rfl⟩
theorem backoffFromSend : Statement .backoffFromSend := ⟨_, _, _, rfl, by decide, rfl⟩
theorem backoffOther : Statement .backoffOther := ⟨_, _, _, rfl, by decide, rfl⟩
theorem enterRecv : Statement .enterRecv := ⟨_, _, _, rfl, by decide, rfl⟩
theorem enterSend : Statement .enterSend := ⟨_, _, _, rfl, by decide, rfl⟩
theorem clearRx : Statement .clearRx := ⟨_, _, _, rfl, by decide, rfl⟩
theorem txOct : ∀ a, Statement (.txOct a) := fun _ => ⟨_, _, _, rfl, by decide, rfl⟩
theorem txData : ∀ a, Statement (.txData a) := fun _ => ⟨_, _, _, rfl, by decide, rfl⟩
theorem txFrame : ∀ a, Statement (.txFrame a) := fun _ => ⟨_, _, _, rfl, by decide, rfl⟩
theorem txStep : Statement .txStep := ⟨_, _, _, rfl, by decide, rfl⟩
theorem txEcho : ∀ a, Statement (.txEcho a) := fun _ => ⟨_, _, _, rfl, by decide, rfl⟩
theorem uartRx : ∀ a, Statement (.uartRx a) := fun _ => ⟨_, _, _, rfl, by decide, rfl⟩
theorem gpioFall : Statement .gpioFall := ⟨_, _, _, rfl, by decide, rfl⟩
theorem timerFire : Statement .timerFire := ⟨_, _, _, rfl, by decide, rfl⟩

end Sys2Proof.Laws.EncodedFormat
end

