-- ==== Sys2Proof/Tests/Slice0.lean ====
section
/-! SUPPORT. Tests: the WellFormed smoke, the decoding of written-out words, single steps against the vectors of
95_test_vectors.md, and a witness for the hypotheses of every statement. -/

open Sys2Proof Sys2Proof.Machine

namespace Sys2Proof.Tests

/-! ## Helpers -/

/-- The conventions of 95_test_vectors.md: `T = 5000`, the station's address. -/
def base : State := { State.reset with mac := #v[0x02, 0, 0, 0, 0, 0x01], timeoutTicks := 5000 }

/-- In a given state of the FSM. -/
def at_ (l : LinkState) : State := { base with link := l }

/-- "ready" of 95_test_vectors.md. -/
def ready : State := { base with link := .idle, gpioIrqEn := true }

/-- A dirty complete buffer with the given octets. -/
def holding (octets : List Byte) : State :=
  { base with
    link := .blocked, flags := { dirty := true, endSeen := true, esc := false },
    rxBuf := Memory.writeAll [] 0 octets, rxLen := octets.length }

/-- The next state, if there is one. -/
def nextOf : Host.Outcome State Fault Refusal → Option State
  | .next s => some s
  | _ => none

/-- The refusal, if there is one. -/
def refusalOf : Host.Outcome State Fault Refusal → Option Refusal
  | .refused r => some r
  | _ => none

/-- The buffer of V-RX-1. -/
def frameA : List Byte := [0x02, 0, 0, 0, 0, 0x01, 0x02, 0, 0, 0, 0, 0x02, 0x88, 0xB5, 0x30, 0x02]

/-- The sequencer waits for the echo of `o` in `SEND`. -/
def waiting (task : TxTask) (o : Byte) : State :=
  { base with link := .send, tmrArmed := true, txPhase := .waitEcho, txTask := task, txExpect := o, lastOctet := o,
              txRetries := 3 }

/-! ## WellFormed: each check refuses an ill-formed term -/

theorem test_wf_wireData_reserved : (Instr.wireData 0xFF).wf = false ∧ (Instr.wireData 0xFE).wf = false := by decide
theorem test_wf_refused_edge : (Instr.refused 0x1 0x1).wf = false ∧ (Instr.refused 0x1 0x2).wf = true := by decide
theorem test_wf_recvDrop_zero : (Instr.recvDrop 0).wf = false ∧ (Instr.recvDrop 1).wf = true := by decide
theorem test_wf_recvDrop_long : (Instr.recvDrop 4294967296).wf = false := by decide
theorem test_wf_recvShort_long : (Instr.recvShort 4294967296).wf = false := by decide
theorem test_wf_recvCopy_long : (Instr.recvCopy 4294967296).wf = false ∧ (Instr.recvCopy 4294967295).wf = true := by decide
theorem test_wf_getAddress_long : (Instr.getAddress 4294967296).wf = false := by decide
theorem test_wf_getOther_own : (Instr.getOther 0).wf = false ∧ (Instr.getOther 1).wf = false := by decide
theorem test_wf_setOther_own : (Instr.setOther 0 [1]).wf = false ∧ (Instr.setOther 1 []).wf = true := by decide
theorem test_wf_setPromisc_named :
    (Instr.setPromiscuousMode (.neither 0)).wf = false ∧ (Instr.setPromiscuousMode (.neither 1)).wf = false := by decide

/-! ## Decoding: words written out from 30_encoding.md R91, R100, R103 -/

theorem test_decode_wire :
    decode [0b11111110, 1] = .ok .wireEsc ∧ decode [0b11111111, 1] = .ok .wireEnd ∧
    decode [0b01000001, 1] = .ok (.wireData 0x41) := by decide
theorem test_decode_edges_to_blocked :
    decode [0b00010001, 2] = .ok .undefInit ∧ decode [0b01000100, 2] = .ok .recvXtimer ∧
    decode [0b01000101, 2] = .ok .sendXtimer ∧ decode [0b01100101, 2] = .ok .sendEnd := by decide
theorem test_decode_edges_elsewhere :
    decode [0b00100010, 2] = .ok .blockedGpio ∧ decode [0b01000010, 2] = .ok .blockedXtimer ∧
    decode [0b00100011, 2] = .ok .idleGpio ∧ decode [0b01010011, 2] = .ok .idleSend ∧
    decode [0b00110101, 2] = .ok .sendUart := by decide
theorem test_decode_recvUart :
    decode [0b00110100, 2, 0] = .ok .recvUartData ∧ decode [0b00110100, 2, 1] = .ok .recvUartEsc ∧
    decode [0b00110100, 2, 2] = .ok .recvUartEnd := by decide
theorem test_decode_refused :
    decode [0b00110010, 2] = .ok (.refused 0x3 0x2) ∧ decode [0b11111111, 2] = .ok (.refused 0xF 0xF) := by decide
theorem test_decode_init : decode [0x01, 3] = .ok .init := by decide
theorem test_decode_send : decode [0x02, 3, 0x41, 0xFF] = .ok (.send [0x41, 0xFF]) := by decide
theorem test_decode_isr : decode [0x03, 3] = .ok .isr := by decide
theorem test_decode_recv :
    decode [0x04, 3, 0, 0, 0, 0, 0] = .ok .recvSize ∧ decode [0x04, 3, 0, 1, 0, 0, 0] = .ok (.recvDrop 1) ∧
    decode [0x04, 3, 1, 13, 0, 0, 0] = .ok (.recvShort 13) ∧
    decode [0x04, 3, 2, 0xEA, 0x05, 0, 0] = .ok (.recvCopy 1514) := by decide
theorem test_decode_get :
    decode [0x05, 3, 1, 6, 0, 0, 0] = .ok (.getAddress 6) ∧ decode [0x05, 3, 0] = .ok .getPromiscuousMode ∧
    decode [0x05, 3, 7] = .ok (.getOther 7) := by decide
theorem test_decode_set :
    decode [0x06, 3, 0, 1] = .ok (.setPromiscuousMode .enable) ∧
    decode [0x06, 3, 0, 0] = .ok (.setPromiscuousMode .disable) ∧
    decode [0x06, 3, 0, 2] = .ok (.setPromiscuousMode (.neither 2)) ∧
    decode [0x06, 3, 1, 2, 0] = .ok (.setOther 1 [2, 0]) := by decide
theorem test_decode_crc :
    decode [0x01, 4, 0xC7, 0x82, 0x31] = .ok (.crc16Update 0xC782 0x31) ∧
    decode [0x02, 4, 0x41] = .ok (.crc16Frame [0x41]) ∧ decode [0x03, 4, 0xFF] = .ok (.crc16Check [0xFF]) := by decide
theorem test_decode_codec :
    decode [0x04, 4, 0xFF] = .ok (.enc 0xFF) ∧ decode [0x05, 4, 0xFF] = .ok (.encSeq [0xFF]) ∧
    decode [0x06, 4, 0xFE] = .ok (.dec 0xFE) ∧ decode [0x07, 4, 0xFE] = .ok (.decSeq [0xFE]) ∧
    decode [0x08, 4] = .ok (.wireFrame []) := by decide
theorem test_decode_link :
    decode [0x09, 4, 0x30] = .ok (.apply 0x3) ∧ decode [0x0A, 4, 0x04] = .ok (.enterBlocked .recv) ∧
    decode [0x0B, 4] = .ok .enterBlockedFromRecv ∧ decode [0x0C, 4] = .ok .backoffFromSend ∧
    decode [0x0D, 4] = .ok .backoffOther ∧ decode [0x0E, 4] = .ok .enterRecv ∧
    decode [0x0F, 4] = .ok .enterSend ∧ decode [0x10, 4] = .ok .clearRx := by decide
theorem test_decode_tx :
    decode [0x11, 4, 0x41] = .ok (.txOct 0x41) ∧ decode [0x12, 4, 0xFF] = .ok (.txData 0xFF) ∧
    decode [0x13, 4, 1, 2] = .ok (.txFrame [1, 2]) ∧ decode [0x14, 4] = .ok .txStep ∧
    decode [0x15, 4, 0x05] = .ok (.txEcho .send) := by decide
theorem test_decode_sources :
    decode [0x16, 4, 0x55] = .ok (.uartRx 0x55) ∧ decode [0x17, 4] = .ok .gpioFall ∧
    decode [0x18, 4] = .ok .timerFire := by decide
theorem test_decode_errors :
    decode [] = .error .emptyPacket ∧ decode [0x01, 5] = .error (.unknownFormat 5) ∧
    decode [0x07, 3] = .error (.unknownHostOp 7) ∧ decode [0x19, 4] = .error (.unknownProc 0x19) ∧
    decode [0x34, 2, 3] = .error (.unknownForm 3) ∧ decode [0x04, 4] = .error .missingOperand ∧
    decode [0x0A, 4, 0x06] = .error (.badOperand 0x06) ∧ decode [0x03, 3, 1] = .error .trailingOctets := by decide

/-! ## CRC16 and codec: V-CRC-1, V-CRC-2, V-CRC-6 to V-CRC-10, V-COD-2 to V-COD-25 -/

theorem test_crc_update :
    crcUpdate 0xFFFF 0x31 = 0xC782 ∧ crcUpdate 0x1234 0x56 = 0x3C40 ∧ crcUpdate 0x0000 0x01 = 0x1021 ∧
    crcUpdate 0xABCD 0xAB = 0xCD00 := by decide
theorem test_crc_frame :
    crcFrame [0x31, 0x32, 0x33, 0x34, 0x35, 0x36, 0x37, 0x38, 0x39] = 0x29B1 ∧ crcFrame [] = 0xFFFF ∧
    crcFrame [0x41] = 0xB915 ∧ crcFrame [0x58, 0x24] = 0xFEFF := by decide
theorem test_crc_check :
    crcCheck [0x48, 0x45, 0x4C, 0x4C, 0x4F, 0x49, 0xD6] = true ∧
    crcCheck [0x48, 0x45, 0x4C, 0x4C, 0x4F, 0xD6, 0x49] = false ∧ crcCheck [] = false ∧
    crcCheck [0xFF, 0xFF] = true := by decide
theorem test_enc :
    encOctet 0x00 = [0x00] ∧ encOctet 0xFF = [0xFE, 0xFF] ∧ encOctet 0xFE = [0xFE, 0xFE] ∧ encOctet 0xFD = [0xFD] := by
  decide
theorem test_encSeq : encOctets [0x01, 0xFF, 0xFE, 0x02] = [0x01, 0xFE, 0xFF, 0xFE, 0xFE, 0x02] := by decide
theorem test_decSeq :
    decOctets [0xFE, 0xFE, 0xFE, 0xFF, 0x41] = ([0xFE, 0xFF, 0x41], false, false) ∧
    decOctets [0x41, 0xFF, 0x42] = ([0x41], true, false) ∧ decOctets [0xFE, 0xFE, 0xFE] = ([0xFE], false, true) := by
  decide
theorem test_wireFrame :
    wireOctets [] = [0xFE, 0xFF, 0xFE, 0xFF, 0xFF] ∧ wireOctets [0xFF] = [0xFE, 0xFF, 0xFE, 0xFF, 0x00, 0xFF] ∧
    wireOctets [0x01, 0x02, 0x03] = [0x01, 0x02, 0x03, 0xAD, 0xAD, 0xFF] := by decide
theorem test_dec :
    (nextOf (exec (.dec 0xFE) base)).map (fun s => (s.flags.esc, s.results)) = some (true, [.decoded .escape]) ∧
    (nextOf (exec (.dec 0xFF) { base with flags := { base.flags with esc := true } })).map
      (fun s => (s.flags.esc, s.results)) = some (false, [.decoded (.data 0xFF)]) := by decide
/-- 30_encoding.md R99. -/
theorem test_flag_bits :
    Flags.bits { dirty := true, endSeen := false, esc := true } = 0x05 ∧
    Flags.bits { dirty := false, endSeen := true, esc := false } = 0x02 ∧ Options.bits { promisc := true } = 0x01 := by
  decide

/-! ## FSM: V-FSM-1 to V-FSM-28 -/

theorem test_undefInit :
    (nextOf (exec .undefInit (at_ .undef))).map (fun s => (s.link, s.gpioIrqEn, s.tmrArmed, s.trace)) =
      some (.blocked, true, true, [.transition .blocked]) := by decide
theorem test_blockedXtimer :
    (nextOf (exec .blockedXtimer (at_ .blocked))).map (fun s => (s.link, s.tmrArmed, s.trace)) =
      some (.idle, false, [.transition .idle]) := by decide
theorem test_timerFire_blocked :
    (nextOf (exec .timerFire { at_ .blocked with tmrArmed := true })).map (fun s => (s.link, s.tmrArmed)) =
      some (.idle, false) := by decide
theorem test_blockedGpio :
    (nextOf (exec .blockedGpio { at_ .blocked with gpioIrqEn := true })).map
      (fun s => (s.link, s.gpioIrqEn, s.tmrArmed, s.tmrDur)) = some (.recv, false, true, 5000) := by decide
theorem test_idleGpio :
    (nextOf (exec .idleGpio ready)).map (fun s => (s.link, s.gpioIrqEn, s.tmrDur)) = some (.recv, false, 5000) := by
  decide
theorem test_idleSend :
    (nextOf (exec .idleSend ready)).map (fun s => (s.link, s.gpioIrqEn, s.tmrDur, s.trace)) =
      some (.send, false, 5000, [.transition .send]) := by decide
theorem test_wireEsc_recv :
    (nextOf (exec .wireEsc { at_ .recv with rxLen := 3 })).map (fun s => (s.flags.esc, s.rxLen, s.link)) =
      some (true, 3, .recv) := by decide
theorem test_recvUartEsc :
    (nextOf (exec .recvUartEsc { at_ .recv with lastOctet := 0xFE })).map (fun s => (s.flags.esc, s.trace)) =
      some (true, [.transition .recv]) := by decide
theorem test_wireEnd_recv :
    (nextOf (exec .wireEnd { at_ .recv with rxLen := 16 })).map (fun s => (s.link, s.flags, s.rxLen, s.trace)) =
      some (.blocked, { dirty := true, endSeen := true, esc := false }, 16, [.isrEvt, .transition .blocked]) := by decide
theorem test_recvUartEnd :
    (nextOf (exec .recvUartEnd { at_ .recv with lastOctet := 0xFF })).map (fun s => (s.link, s.gpioIrqEn)) =
      some (.blocked, true) := by decide
theorem test_wireData_recv :
    (nextOf (exec (.wireData 0x41) (at_ .recv))).map (fun s => (s.rxLen, s.rxBuf, s.tmrDur)) =
      some (1, [(0, 0x41)], 5000) := by decide
theorem test_recvUartData_full :
    (nextOf (exec .recvUartData { at_ .recv with lastOctet := 0x22, rxLen := 1516, rxBuf := [(1515, 0x11)] })).map
      (fun s => (s.rxLen, s.rxBuf, s.tmrArmed)) = some (1516, [(1515, 0x11)], true) := by decide
theorem test_uartRx_escaped_end :
    (nextOf (exec (.uartRx 0xFF) { at_ .recv with flags := { base.flags with esc := true }, rxLen := 3 })).map
      (fun s => (s.link, s.flags.esc, s.rxBuf, s.rxLen)) = some (.recv, false, [(3, 0xFF)], 4) := by decide
theorem test_uartRx_refused :
    (nextOf (exec (.uartRx 0x55) ready)).map (fun s => (s.lastOctet, s.link, s.trace)) = some (0x55, .idle, []) := by
  decide
theorem test_recvXtimer :
    (nextOf (exec .recvXtimer { at_ .recv with flags := { base.flags with esc := true }, rxLen := 2 })).map
      (fun s => (s.link, s.flags, s.rxLen, s.trace)) =
      some (.blocked, { dirty := true, endSeen := false, esc := false }, 2, [.isrEvt, .transition .blocked]) := by decide
theorem test_sendUart :
    (nextOf (exec .sendUart { at_ .send with lastOctet := 0xFF })).map (fun s => (s.link, s.rxLen, s.tmrDur)) =
      some (.send, 0, 5000) := by decide
theorem test_sendXtimer :
    (nextOf (exec .sendXtimer (at_ .send))).map (fun s => (s.link, s.trace, s.flags)) =
      some (.blocked, [.transition .blocked], base.flags) := by decide
theorem test_sendEnd :
    (nextOf (exec .sendEnd (at_ .send))).map (fun s => (s.link, s.gpioIrqEn, s.tmrArmed)) =
      some (.blocked, true, true) := by decide
theorem test_refused :
    (nextOf (exec (.refused 0x3 0x2) { at_ .blocked with lastOctet := 0x41 })).map (fun s => (s.link, s.trace)) =
      some (.blocked, []) := by decide
theorem test_gpioFall_masked :
    (nextOf (exec .gpioFall (at_ .recv))).map (fun s => (s.link, s.trace)) = some (.recv, []) := by decide
theorem test_apply_refused :
    (nextOf (exec (.apply 0x5) (at_ .recv))).map (fun s => (s.trace, s.results)) = some ([], [.link .recv]) := by decide
theorem test_apply_edge :
    (nextOf (exec (.apply 0x5) ready)).map (fun s => (s.link, s.results)) = some (.send, [.link .send]) := by decide
theorem test_enterBlocked :
    (nextOf (exec (.enterBlocked .recv) (at_ .recv))).map (fun s => (s.link, s.flags.dirty, s.trace, s.gpioIrqEn)) =
      some (.recv, true, [.isrEvt], true) := by decide
theorem test_enterBlockedFromRecv :
    (nextOf (exec .enterBlockedFromRecv (at_ .recv))).map (fun s => (s.flags.dirty, s.trace, s.tmrArmed)) =
      some (true, [.isrEvt], false) := by decide
theorem test_enterRecv :
    (nextOf (exec .enterRecv ready)).map (fun s => (s.link, s.gpioIrqEn, s.tmrDur)) = some (.idle, false, 5000) := by
  decide
theorem test_enterSend :
    (nextOf (exec .enterSend ready)).map (fun s => (s.link, s.gpioIrqEn, s.tmrDur)) = some (.idle, false, 5000) := by
  decide

/-! ## Receive: V-RX-2 to V-RX-17 -/

theorem test_clearRx :
    (nextOf (exec .clearRx (holding [0x01, 0x02]))).map (fun s => (s.flags, s.rxLen, s.rxBuf)) =
      some (base.flags, 0, [(0, 0x01), (1, 0x02)]) := by decide
set_option maxRecDepth 8192 in
theorem test_isr_complete :
    (nextOf (exec .isr (holding frameA))).map (fun s => (s.trace, s.rxLen, s.flags.dirty)) =
      some ([.rxComplete], 16, true) := by decide
set_option maxRecDepth 8192 in
theorem test_isr_drops :
    (nextOf (exec .isr (holding (frameA.take 14 ++ [0x02, 0x30])))).map (fun s => (s.trace, s.rxLen)) = some ([], 0) ∧
    (nextOf (exec .isr (holding [0x02, 0, 0, 0, 0, 0x09, 0x02, 0, 0, 0, 0, 0x02, 0x88, 0xB5, 0x19, 0xFD]))).map
      (fun s => (s.trace, s.rxLen)) = some ([], 0) := by decide
theorem test_recvSize :
    (nextOf (exec .recvSize (holding frameA))).map (fun s => (s.results, s.rxLen)) = some ([.size 14], 16) := by decide
theorem test_recvDrop :
    (nextOf (exec (.recvDrop 1) (holding frameA))).map (fun s => (s.results, s.rxLen)) = some ([.size 14], 0) := by decide
theorem test_recvShort :
    (nextOf (exec (.recvShort 13) (holding frameA))).map (fun s => (s.results, s.rxLen, s.callerBuf)) =
      some ([.negative .enobufs], 0, []) := by decide
theorem test_recvCopy :
    (nextOf (exec (.recvCopy 14) (holding frameA))).map (fun s => (s.results, s.callerBuf.map Prod.snd)) =
      some ([.size 14], frameA.take 14) := by decide
/-- 43_receive.md R187: `rx_len = 15` is outside the window. -/
theorem test_recvSize_window : refusalOf (exec .recvSize (holding (frameA.take 15))) = some .recvOutsideWindow := by decide
/-- 10_state.md R45, 93_implementation_defined.md U1: octets that nothing has written have any value; reading them does
not stop, an index outside the buffer does (20_memory.md R63). -/
theorem test_readRx_reset :
    State.reset.readRx 1515 = .ok (Config.rxBufReset 1515) ∧ State.reset.readRx 1516 = .error (.outOfRange 1516) := ⟨rfl, rfl⟩
theorem test_recvCopy_unwritten :
    (nextOf (exec (.recvCopy 14) { holding [] with rxLen := 16 })).map (fun s => (s.results, s.rxLen)) =
      some ([.size 14], 0) := by decide
theorem test_recvCopy_window : refusalOf (exec (.recvCopy 14) ready) = some .recvOutsideWindow := by decide

/-! ## Send and configuration: V-TX-1 to V-TX-6, V-CFG-1, V-CFG-2 -/

theorem test_send :
    (nextOf (exec (.send [0x41]) ready)).map (fun s => (s.txPhase, s.txRetries, s.txCrc, s.txPos)) =
      some (.waitIdle, 3, 0xFFFF, 0) := by decide
theorem test_txFrame :
    (nextOf (exec (.txFrame [0x41]) ready)).map (fun s => (s.txPhase, s.txTask)) = some (.waitIdle, .frame) := by decide
theorem test_txOct :
    (nextOf (exec (.txOct 0x41) (at_ .send))).map (fun s => (s.trace, s.txExpect, s.txPhase)) =
      some ([.uartTx 0x41], 0x41, .waitEcho) := by decide
theorem test_txData :
    (nextOf (exec (.txData 0xFF) (at_ .send))).map (fun s => (s.trace, s.txExpect)) = some ([.uartTx 0xFE], 0xFE) := by
  decide
theorem test_txStep_race :
    (nextOf (exec .txStep { at_ .recv with txPhase := .request, txRetries := 3 })).map (fun s => (s.txPhase, s.txRetries)) =
      some (.waitIdle, 3) := by decide
theorem test_txStep_elements :
    (nextOf (exec .txStep { at_ .send with txPhase := .put, txPayload := [1, 2, 3], txPos := 3, txCrc := 0xADAD })).map
      (fun s => s.trace) = some [.uartTx 0xAD] := by decide
theorem test_uartRx_echo :
    (nextOf (exec (.uartRx 0x41) (waiting (.oct 0x41) 0x41))).map (fun s => (s.txPhase, s.results)) =
      some (.off, [.verdict .ok]) := by decide
theorem test_txEcho_mismatch :
    (nextOf (exec (.txEcho .send) { waiting .send 0xFF with lastOctet := 0x7F, txSub := true })).map
      (fun s => (s.txPhase, s.txRetries, s.txSub, s.txCrc)) = some (.waitIdle, 2, false, 0xFFFF) := by decide
theorem test_txEcho_timeout :
    (nextOf (exec (.txEcho .blocked) (waiting (.oct 0x41) 0x41))).map (fun s => s.results) =
      some [.verdict .collisionTimeout] := by decide
theorem test_init :
    (nextOf (exec .init { at_ .recv with rxLen := 17, options := { promisc := true } })).map
      (fun s => (s.link, s.rxLen, s.options.promisc, s.results)) = some (.blocked, 0, true, [.status 0]) := by decide
theorem test_getAddress :
    (nextOf (exec (.getAddress 6) base)).map (fun s => s.results) = some [.address #v[0x02, 0, 0, 0, 0, 0x01]] ∧
    refusalOf (exec (.getAddress 5) base) = some .addressBufferShort := by decide
theorem test_getPromiscuousMode :
    (nextOf (exec .getPromiscuousMode base)).map (fun s => s.results) = some [.promisc false] := by decide
theorem test_setPromiscuousMode :
    (nextOf (exec (.setPromiscuousMode .enable) base)).map (fun s => s.options.promisc) = some true ∧
    refusalOf (exec (.setPromiscuousMode (.neither 2)) base) = some .promiscValue := by decide
theorem test_other_options :
    (nextOf (exec (.getOther 7) base)).map (fun s => s.results) = some [.delegated] ∧
    (nextOf (exec (.setOther 1 [0x02]) base)).map (fun s => (s.results, s.mac)) = some ([.delegated], base.mac) := by
  decide

/-! ## From reset -/

/-- A table word runs as the first operation after reset (10_state.md R45: only `INIT` moves the FSM). -/
theorem test_reset_init : (nextOf (step (State.reset.withFetchWord 8 0x01))).map (fun s => s.link) = some .blocked := by
  decide
theorem test_reset_inert :
    (nextOf (step (State.reset.withFetchWord 8 0x22))).map (fun s => (s.link, s.tmrArmed)) = some (.undef, false) := by
  decide

/-! ## Witnesses: each names the statement whose hypotheses it meets, clause by clause, at the edges of their ranges -/

theorem witness_DecodeReadsBackEncode :
    (Instr.recvDrop 1).wf = true ∧ (Instr.recvCopy 4294967295).wf = true ∧ (Instr.wireData 0xFD).wf = true := by decide
theorem witness_DecodedOperationsAreWellFormed : decode [0x04, 3, 0, 0xFF, 0xFF, 0xFF, 0xFF] = .ok (.recvDrop 4294967295) := by
  decide
theorem witness_StepRunsDecodedOperation :
    (∃ (s : State) (p : List Byte) (r : List (List Byte)) (i : Instr),
      s.pending = p :: r ∧ decode p = .ok i ∧ i.wf = true) ∧
    (∃ s : State, s.pending = []) ∧
    ∃ (s : State) (p : List Byte) (r : List (List Byte)) (e : DecodeError), s.pending = p :: r ∧ decode p = .error e :=
  ⟨⟨{ base with pending := [[0x10, 4]] }, [0x10, 4], [], .clearRx, rfl, by decide, rfl⟩, ⟨base, rfl⟩,
    ⟨{ base with pending := [[0x07, 3]] }, [0x07, 3], [], .unknownHostOp 7, rfl, by decide⟩⟩
theorem witness_EscapeRoundTrip :
    (encOctets [0xFF])[1]? = some 0xFF ∧ (encOctets [0xFE])[0]? = some 0xFE ∧ (encOctets [0xFE])[1]? = some 0xFE ∧
    wireOctets [0xFF] = [0xFE, 0xFF, 0xFE, 0xFF, 0x00] ++ [0xFF] := by decide
theorem witness_CodecOperationsReturnTheirValue :
    (at_ .recv).flags.esc = false ∧ ({ base with flags := { base.flags with esc := true } } : State).flags.esc = true ∧
    ((0xFD : Byte) ≠ 0xFE ∧ (0xFD : Byte) ≠ 0xFF) := by decide
theorem witness_BackoffDrawsInTheirIntervals : TicksOk base ∧ TicksOk { base with timeoutTicks := 1 } := by decide
theorem witness_InitEdgeEntersBlocked : (at_ .undef).link = .undef ∧ TicksOk (at_ .undef) := by decide
theorem witness_BackoffExpiryEntersIdle :
    ({ at_ .blocked with tmrArmed := true } : State).link = .blocked ∧
    ({ at_ .blocked with tmrArmed := true } : State).tmrArmed = true := by decide
theorem witness_FallingEdgeEntersReception :
    (at_ .blocked).link = .blocked ∧ (at_ .idle).link = .idle ∧ ready.gpioIrqEn = true ∧ ready.link = .idle ∧
    ({ at_ .blocked with gpioIrqEn := true } : State).gpioIrqEn = true := by decide
theorem witness_SourcesWithoutAnEdge :
    (at_ .recv).gpioIrqEn = false ∧ ({ at_ .send with gpioIrqEn := true } : State).link = .send ∧
    ({ ready with tmrArmed := true } : State).tmrArmed = true ∧ ready.link = .idle ∧ ready.tmrArmed = false := by decide
theorem witness_EscapeOctetInReception :
    (at_ .recv).link = .recv ∧ (at_ .recv).flags.esc = false ∧ Arrives .wireEsc 0xFE ∧ Arrives (.uartRx 0xFE) 0xFE ∧
    ({ at_ .recv with lastOctet := 0xFE } : State).lastOctet = 0xFE :=
  ⟨rfl, rfl, .inl ⟨rfl, rfl⟩, .inr (.inr (.inr rfl)), rfl⟩
theorem witness_EndOctetInReception :
    (at_ .recv).link = .recv ∧ (at_ .recv).flags.esc = false ∧ TicksOk (at_ .recv) ∧ Arrives .wireEnd 0xFF ∧
    ({ at_ .recv with lastOctet := 0xFF } : State).lastOctet = 0xFF :=
  ⟨rfl, rfl, by decide, .inr (.inl ⟨rfl, rfl⟩), rfl⟩
theorem witness_DataOctetInReception :
    (at_ .recv).link = .recv ∧ ((0x00 : Byte) ≠ 0xFE ∧ (0x00 : Byte) ≠ 0xFF) ∧ Arrives (.wireData 0x00) 0x00 ∧
    ({ at_ .recv with lastOctet := 0x00, rxLen := 1515 } : State).flags.dirty = false ∧
    ({ at_ .recv with lastOctet := 0x00, rxLen := 1515 } : State).rxLen < 1516 ∧
    1516 ≤ ({ at_ .recv with rxLen := 1516 } : State).rxLen :=
  ⟨rfl, by decide, .inr (.inr (.inl rfl)), rfl, by decide, by decide⟩
theorem witness_TimeoutInReception :
    ({ at_ .recv with tmrArmed := true } : State).link = .recv ∧ TicksOk { at_ .recv with tmrArmed := true } ∧
    ({ at_ .recv with tmrArmed := true } : State).tmrArmed = true := by decide
theorem witness_SendRequestEntersSend : ready.link = .idle := rfl
theorem witness_OctetInSendIsNotDecoded :
    (at_ .send).link = .send ∧ Arrives .wireEnd 0xFF ∧ (at_ .send).lastOctet = 0 :=
  ⟨rfl, .inr (.inl ⟨rfl, rfl⟩), rfl⟩
theorem witness_SendIsLeftWithTheLongBackoff :
    ({ at_ .send with tmrArmed := true } : State).link = .send ∧ TicksOk { at_ .send with tmrArmed := true } ∧
    ({ at_ .send with tmrArmed := true } : State).tmrArmed = true := by decide
theorem witness_OctetOutsideAFrameIsDropped :
    (at_ .undef).link = .undef ∧ (at_ .blocked).link = .blocked ∧ (at_ .idle).link = .idle ∧
    Arrives (.uartRx 0x55) 0x55 := ⟨rfl, rfl, rfl, .inr (.inr (.inr rfl))⟩
theorem witness_RefusedPairsChangeNothing : ((at_ .undef).link, Signal.uart) ∉ edgePairs := by decide
theorem witness_ApplyRunsTheEdge :
    (LinkState.undef, Signal.init, Instr.undefInit) ∈ edgeRows ∧ (at_ .undef).link = .undef ∧
    (∀ sig : Signal, sig.code ≠ 0x0) ∧ ∀ sig : Signal, sig.code ≠ 0x7 :=
  ⟨by decide, rfl, fun sig => by cases sig <;> decide, fun sig => by cases sig <;> decide⟩
theorem witness_RowsOfOneCodeAreOneOperation :
    (LinkState.undef, Signal.init, Instr.undefInit) ∈ edgeRows ∧ (at_ .idle).link ≠ .undef := by decide
theorem witness_EntryActions : TicksOk base := by decide
theorem witness_SettlingEmitsOneTransition : base.txPhase ≠ .waitEcho := by decide
theorem witness_OneTransitionPerOperation : exec .idleSend ready = .next (ready.apply .send) := rfl
theorem witness_StateMovesAlongTheTable :
    (exec .idleSend ready = .next (ready.apply .send) ∧ (ready.apply .send).link ≠ ready.link) ∧
    ∃ t, exec .init ready = .next t ∧ t.link ≠ ready.link :=
  ⟨⟨rfl, by decide⟩, ⟨_, rfl, by decide⟩⟩

/-- The buffer of `holding` is what `BufferHolds` says. -/
theorem holding_holds (l : List Byte) (h : l.length ≤ Config.frameLen) : BufferHolds (holding l) l :=
  ⟨rfl, h, fun a ha => by
    have h : (holding l).rxBuf.read a = some l[a] := by
      show Memory.read (Memory.writeAll [] 0 l) a = some l[a]
      rw [Memory.read_writeAll]
      simp [ha]
    rw [State.rxOctet_of_read h]
    simp [ha]⟩

theorem witness_IsrValidatesOrDrops :
    ready.flags.dirty = false ∧
    ({ base with flags := { base.flags with dirty := true } } : State).flags.endSeen = false ∧
    (holding (frameA.take 15)).rxLen < 16 ∧
    ((holding frameA).flags.dirty = true ∧ (holding frameA).flags.endSeen = true ∧ 16 ≤ (holding frameA).rxLen ∧
      BufferHolds (holding frameA) frameA ∧ frameA.take 6 = (holding frameA).mac.toList ∧
      crcFrame frameA = 0x0000) :=
  ⟨rfl, rfl, by decide, rfl, rfl, by decide, holding_holds frameA (by decide), by decide, by decide⟩
/-- The filtered frame of V-RX-6 and the bad CRC of V-RX-8. -/
def frameC : List Byte := [0x02, 0, 0, 0, 0, 0x09, 0x02, 0, 0, 0, 0, 0x02, 0x88, 0xB5, 0x19, 0xFD]
def frameBad : List Byte := [0x02, 0, 0, 0, 0, 0x01, 0x02, 0, 0, 0, 0, 0x02, 0x88, 0xB4, 0x30, 0x02]

theorem witness_IsrValidatesOrDrops_filtered :
    (holding frameC).flags.dirty = true ∧ (holding frameC).flags.endSeen = true ∧ 16 ≤ (holding frameC).rxLen ∧
    BufferHolds (holding frameC) frameC ∧ (holding frameC).options.promisc = false ∧
    (0x02 : Byte).getLsbD 0 = false ∧ frameC.take 6 ≠ (holding frameC).mac.toList :=
  ⟨rfl, rfl, by decide, holding_holds frameC (by decide), rfl, by decide, by decide⟩
set_option maxRecDepth 8192 in
theorem witness_IsrValidatesOrDrops_badCrc :
    (holding frameBad).flags.dirty = true ∧ (holding frameBad).flags.endSeen = true ∧ 16 ≤ (holding frameBad).rxLen ∧
    BufferHolds (holding frameBad) frameBad ∧ crcFrame frameBad ≠ 0x0000 :=
  ⟨rfl, rfl, by decide, holding_holds frameBad (by decide), by decide⟩
theorem witness_RecvSizeDropShort :
    (holding frameA).flags.dirty = true ∧ (holding frameA).flags.endSeen = true ∧ (holding frameA).rxLen = 16 ∧
    13 < (holding frameA).rxLen - 2 := by decide
theorem witness_RecvCopyDeliversTheFrame :
    (holding frameA).flags.dirty = true ∧ (holding frameA).flags.endSeen = true ∧ 16 ≤ (holding frameA).rxLen ∧
    BufferHolds (holding frameA) frameA ∧ (holding frameA).rxLen - 2 ≤ 14 :=
  ⟨rfl, rfl, by decide, holding_holds frameA (by decide), by decide⟩
theorem witness_RecvOutsideItsWindowIsRefused :
    ready.flags.dirty = false ∧ ready.flags.endSeen = false ∧ (holding [0xFF]).rxLen < 2 ∧
    (holding (frameA.take 15)).flags.dirty = true ∧ (holding (frameA.take 15)).flags.endSeen = true ∧
    (holding (frameA.take 15)).rxLen = 15 := by decide
theorem witness_FrameOnTheWireIsDelivered :
    14 ≤ (frameA.take 14).length ∧ (frameA.take 14).length ≤ 1514 ∧ ready.link = .idle ∧ ready.gpioIrqEn = true ∧
    ready.flags = { dirty := false, endSeen := false, esc := false } ∧ ready.rxLen = 0 ∧ ready.txPhase ≠ .waitEcho ∧
    (frameA.take 14).take 6 = ready.mac.toList := by decide
theorem witness_SendStartsTheSequencer : ready.txPhase = .off := rfl
theorem witness_VerifiedWritesStart : (at_ .send).txPhase = .off := rfl
theorem witness_BusySequencerRefusesASecondSend : (waiting .send 0x41).txPhase ≠ .off := by decide

/-- The sequencer in a phase, in `IDLE`. -/
def phased (ph : TxPhase) : State := { ready with txPhase := ph, txTask := .send, txCrc := 0xFFFF }

theorem witness_SequencerSteps :
    (base.txPhase = .off ∧ (waiting .send 0).txPhase = .waitEcho ∧
      ({ phased .waitIdle with link := .recv } : State).link ≠ .idle) ∧
    ((phased .waitIdle).txPhase = .waitIdle ∧ (phased .waitIdle).link = .idle) ∧
    ((phased .request).txPhase = .request ∧ (phased .request).link = .idle) ∧
    ((at_ .recv).link ≠ .idle ∧ (at_ .recv).link ≠ .send) ∧ (phased .put).txPhase = .put ∧
    ((phased .finish).txTask = .send ∧ (phased .finish).link ≠ .send ∧
      ({ phased .finish with link := .send } : State).link = .send ∧
      TicksOk { phased .finish with link := .send }) := by decide
theorem witness_NextOctetOfAFrame_data :
    ({ phased .put with txTask := .data 0xFF, txSub := true } : State).txTask = .data 0xFF ∧
    ({ phased .put with txTask := .data 0xFF, txSub := true } : State).txSub = true ∧
    ({ phased .put with txTask := .data 0xFD } : State).txTask = .data 0xFD ∧ (phased .put).txSub = false ∧
    ({ phased .put with txTask := .oct 0xFE } : State).txTask = .oct 0xFE := by decide
theorem witness_NextOctetOfAFrame :
    ∃ s : State, s.txTask = .send ∧ s.txPayload[s.txPos]? = some 0xFF ∧
      ({ s with txPos := 1 } : State).txPos = s.txPayload.length ∧
      ({ s with txPos := 2 } : State).txPos = s.txPayload.length + 1 ∧
      ({ s with txPos := 3 } : State).txPos = s.txPayload.length + 2 :=
  ⟨{ phased .put with txPayload := [0xFF] }, rfl, rfl, rfl, rfl, rfl⟩
theorem witness_EchoReaction :
    base.txPhase ≠ .waitEcho ∧
    ((waiting .send 0x41).txPhase = .waitEcho ∧ (waiting .send 0x41).txTask = .send ∧
      (waiting .send 0x41).txRetries ≠ 0 ∧ ({ waiting .send 0x41 with txRetries := 0 } : State).txRetries = 0 ∧
      (waiting .send 0x41).lastOctet = (waiting .send 0x41).txExpect) ∧
    ({ waiting .send 0xFE with txPayload := [0xFF] } : State).txNeedsEsc = true ∧
    (({ waiting .send 0x41 with txPayload := [0x41] } : State).txNeedsEsc = false ∧
      ({ waiting .send 0x41 with txPayload := [0x41] } : State).txPayload[0]? = some 0x41) ∧
    ({ waiting .send 0xFF with txPos := 2 } : State).txNeedsEsc = false := by decide
theorem witness_EchoVerdicts :
    (waiting (.oct 0x41) 0x41).txPhase = .waitEcho ∧ (waiting (.oct 0x41) 0x41).txTask ≠ .send ∧
    (waiting (.data 0xFF) 0xFE).lastOctet = (waiting (.data 0xFF) 0xFE).txExpect ∧
    ({ waiting (.oct 0x41) 0x41 with lastOctet := 0x40 } : State).lastOctet ≠ (waiting (.oct 0x41) 0x41).txExpect := by
  decide

/-- A frame of no payload whose last octet was verified. -/
def finished : State :=
  { phased .finish with link := .send, txPos := 3,
                        trace := [.uartTx 0xFE, .uartTx 0xFF, .uartTx 0xFE, .uartTx 0xFF, .uartTx 0xFF] }

theorem finished_ok : TxOk finished := by
  refine ⟨by decide, ?_⟩
  show finished.txPos = finished.txPayload.length + 3 ∧ finished.txCrc = crcFrame finished.txPayload ∧
    wireOctets finished.txPayload <:+ finished.uartOctets
  decide
theorem reset_txOk : TxOk State.reset := ⟨by decide, trivial⟩
theorem witness_SequencerInvariantKept : TxOk State.reset ∧ step State.reset = .next State.reset := ⟨reset_txOk, rfl⟩
theorem witness_SendReturnsAfterTheWholeFrame : TxOk finished ∧ finished.txPhase = .finish ∧ finished.txTask = .send :=
  ⟨finished_ok, rfl, rfl⟩
theorem witness_RetriesOnlyDecrease :
    (waiting .send 0x41).txPhase ≠ .off ∧ ∃ t, exec (.txEcho .blocked) (waiting .send 0x41) = .next t ∧ t.txPhase = .waitIdle :=
  ⟨by decide, _, rfl, by decide⟩
theorem witness_SendOnAnIdealMedium : ready.link = .idle ∧ ready.txPhase = .off := ⟨rfl, rfl⟩
theorem witness_InitResetsTransientState : TicksOk (at_ .recv) := by decide
theorem witness_GetReturnsTheOption : 6 ≤ 6 ∧ 5 < 6 := by decide
theorem witness_ReceiveMemoryInvariantKept :
    MemoryOk base ∧ BufferOk base ∧ step base = .next base := ⟨by decide, by decide, rfl⟩
theorem witness_NoStepFaults :
    BufferOk { holding [0x41] with pending := [[0x03, 3]] } ∧ ({ base with rxLen := 1516 } : State).rxLen ≤ 1516 := by decide
theorem witness_TimerAndMaskInvariantKept :
    TimerMaskOk { ready with pending := [[0x17, 4]] } ∧
    (∃ t, step { ready with pending := [[0x17, 4]] } = .next t) ∧
    ∀ packet rest i, ({ ready with pending := [[0x17, 4]] } : State).pending = packet :: rest →
      decode packet = .ok i → isFragment i = false :=
  ⟨by decide, ⟨_, rfl⟩, fun p r i h hd => by
    cases h
    cases hd
    rfl⟩
theorem witness_CleanBufferInvariantKept :
    (∀ o, Instr.idleSend ≠ .dec o) ∧ CleanOk ready ∧ ∃ t, exec .idleSend ready = .next t :=
  ⟨fun _ h => (nomatch h), by decide, _, rfl⟩
theorem witness_DirtyBufferIsFrozen : (holding frameA).flags.dirty = true ∧ ∃ t, exec .clearRx (holding frameA) = .next t :=
  ⟨rfl, _, rfl⟩
theorem witness_BufferGrowsOnlyAtItsEnd : ∃ t, exec (.uartRx 0x41) (at_ .recv) = .next t := ⟨_, rfl⟩
theorem witness_PersistentRegistersKept : ∃ t, exec (.uartRx 0x41) ready = .next t := ⟨_, rfl⟩
theorem witness_EndFlagClearedOnlyByClearRx :
    ∃ t, exec .clearRx (holding frameA) = .next t ∧ (holding frameA).flags.endSeen = true ∧ t.flags.endSeen = false :=
  ⟨_, rfl, rfl, rfl⟩
theorem witness_UnwrittenOctetsAreUnobservable : SameBelow base { base with rxBuf := [(7, 0x41)] } :=
  ⟨rfl, fun a h => absurd h (by simp [base, State.reset])⟩

end Sys2Proof.Tests
end

