-- ==== Sys2Proof/Proofs/Step.lean ====
section
/-! PROOFS. What a step does in each of its three cases (00_scope.md R11, log 1, log 2). -/

namespace Sys2Proof.Machine

theorem step_of_pending_nil {s : State} (hp : s.pending = []) : step s = .next s := by
  simp only [step, hp]

theorem step_of_decode_ok {s : State} {packet : List Byte} {rest : List (List Byte)} {i : Instr}
    (hp : s.pending = packet :: rest) (hd : decode packet = .ok i) :
    step s = exec i { s with pending := rest } := by
  simp only [step, hp, hd]

theorem step_of_decode_error {s : State} {packet : List Byte} {rest : List (List Byte)} {e : DecodeError}
    (hp : s.pending = packet :: rest) (hd : decode packet = .error e) :
    step s = .refused (.undecodable e) := by
  simp only [step, hp, hd]

/-- Settles O5: one clause per equation of `step`. That the operation is well-formed is not needed, since `exec` gives
every `Instr` a meaning or a named stop. -/
theorem stepRunsDecodedOperation : Obligations.StepRunsDecodedOperation :=
  ⟨fun _ _ _ _ hp hd _ => step_of_decode_ok hp hd,
    fun _ hp => step_of_pending_nil hp,
    fun _ _ _ _ hp hd => step_of_decode_error hp hd⟩

end Sys2Proof.Machine
end

section
/-! PROOFS. The receive registers: one view of them, everything an operation can do to them said once (`RxChange`), and
the invariants of 10_state.md R44 (b), (c), (f) that follow. -/

namespace Sys2Proof.Machine

/-! ## The view -/

/-- The registers the receive path reads and writes: `state`, `flags`, `rx_buf`, `rx_len` (R21, R22, R28, R29). -/
structure RxRegs where
  link : LinkState
  flags : Flags
  buf : Memory
  len : Nat

/-- The receive registers of a state. -/
def State.rxRegs (s : State) : RxRegs where
  link := s.link
  flags := s.flags
  buf := s.rxBuf
  len := s.rxLen

@[simp] theorem State.echo_rxRegs (s : State) (l : LinkState) : (s.echo l).rxRegs = s.rxRegs := by
  simp [State.rxRegs]

@[simp] theorem State.settle_rxRegs (s : State) : s.settle.rxRegs = s.rxRegs := by
  simp [State.rxRegs]

/-! ## What an operation does to the receive registers -/

/-- The operations that perform `CLEARRX` (43_receive.md R181, R182, R189 to R191, 45_config.md R231). -/
def PerformsClearRx (i : Instr) : Prop :=
  i = .clearRx ∨ i = .isr ∨ i = .init ∨ ∃ n, i = .recvDrop n ∨ i = .recvShort n ∨ i = .recvCopy n

/-- The receive registers after an operation that answers a next state. -/
inductive RxChange (i : Instr) (a : RxRegs) : RxRegs → Prop
  /-- Only `state` moves, and not out of `RECV`. -/
  | moved (l : LinkState) (hl : a.link = .recv → l = .recv) : RxChange i a { a with link := l }
  /-- `flags.ESC` is written: by an octet in `RECV` that is not stored (42_fsm.md R155, R157), or by a bare `DEC`. -/
  | escWritten (b : Bool) (hi : a.link = .recv ∨ ∃ o, i = .dec o) :
      RxChange i a { a with flags := { a.flags with esc := b } }
  /-- A data octet is appended in `RECV` (R157). -/
  | stored (o : Byte) (hl : a.link = .recv) (hd : a.flags.dirty = false) (hn : a.len < Config.frameLen) :
      RxChange i a
        { a with flags := { a.flags with esc := false }, buf := a.buf.write a.len o, len := a.len + 1 }
  /-- Reception ends: `DIRTY` is set, `ESC` is cleared, `END` is kept or set (R150, R156, R158). -/
  | closed (l : LinkState) (e : Bool) (he : a.flags.endSeen = true → e = true) :
      RxChange i a { a with link := l, flags := { dirty := true, endSeen := e, esc := false } }
  /-- `CLEARRX` (R181). -/
  | cleared (l : LinkState) (hi : PerformsClearRx i) :
      RxChange i a { a with link := l, flags := Flags.clear, len := 0 }

/-- A view that stays the same is a change too. -/
theorem RxChange.of_eq {i : Instr} {a b : RxRegs} (h : b = a) : RxChange i a b := by
  subst h
  exact .moved b.link id

/-- Storing a data octet, or, dirty or full, only clearing `flags.ESC` (R157). -/
theorem State.append_rxChange (i : Instr) (s : State) (o : Byte) (hl : s.link = .recv) :
    RxChange i s.rxRegs (s.append o).rxRegs := by
  unfold State.append
  split
  · rename_i h
    obtain ⟨hd, hn⟩ : s.flags.dirty = false ∧ s.rxLen < Config.frameLen := by simpa using h
    exact .stored o hl hd hn
  · exact .escWritten false (.inl hl)

/-- The three verdicts in `RECV` (R155, R156, R157). -/
theorem State.recvOctet_rxChange (i : Instr) (s : State) (hl : s.link = .recv) :
    RxChange i s.rxRegs s.recvOctet.rxRegs := by
  obtain h | h | h := s.recvOctet_cases <;> rw [h]
  · exact .escWritten true (.inl hl)
  · exact .closed .blocked true fun _ => rfl
  · exact s.append_rxChange i s.lastOctet hl

/-- The ten edges before settling (42_fsm.md R142). -/
theorem State.edge_rxChange (i : Instr) {s t : State} {sig : Signal} (h : s.edge sig = some t) :
    RxChange i s.rxRegs t.rxRegs := by
  have outside {l l' : LinkState} (hs : s.link = l) (hl : l ≠ .recv) : s.rxRegs.link = .recv → l' = .recv :=
    fun hr => absurd (hs.symm.trans hr) hl
  obtain ⟨hs, -, rfl⟩ | ⟨hs, -, rfl⟩ | ⟨hs | hs, -, rfl⟩ | ⟨hs, -, rfl⟩ | ⟨hs, -, rfl⟩ | ⟨hs, -, rfl⟩ |
    ⟨hs, -, rfl⟩ | ⟨hs, -, rfl⟩ := State.edge_cases h
  · exact .moved .blocked (outside hs (by decide))
  · exact .moved .idle (outside hs (by decide))
  · exact .moved .recv fun _ => rfl
  · exact .moved .recv fun _ => rfl
  · exact .moved .send (outside hs (by decide))
  · exact s.recvOctet_rxChange i hs
  · exact .closed .blocked s.flags.endSeen id
  · exact .of_eq rfl
  · exact .moved .blocked (outside hs (by decide))

theorem State.apply_rxChange (i : Instr) (s : State) (sig : Signal) :
    RxChange i s.rxRegs (s.apply sig).rxRegs := by
  obtain ⟨t, ht, h⟩ | ⟨-, h⟩ := s.apply_cases sig <;> rw [h]
  · rw [State.settle_rxRegs]
    exact State.edge_rxChange i ht
  · exact .of_eq rfl

/-- The edge `UNDEF`+`INIT` (R147). -/
theorem State.apply_init_of_undef {s : State} (h : s.link = .undef) :
    s.apply .init = ({ s.enterBlocked .undef with link := .blocked } : State).settle := by
  simp [State.apply, State.edge, h]

/-- `INIT` clears the buffer and enters `BLOCKED` from `UNDEF` (45_config.md R231). -/
theorem State.init_rxRegs (s : State) :
    (({ s.clearBuffer with link := .undef } : State).apply .init).rxRegs =
      { s.rxRegs with link := .blocked, flags := Flags.clear, len := 0 } := by
  rw [State.apply_init_of_undef rfl, State.settle_rxRegs]
  rfl

/-- A step of the sequencer applies `SEND` or `END` or touches no receive register (44_send.md R206). -/
theorem State.txAct_rxChange (i : Instr) (s : State) : RxChange i s.rxRegs s.txAct.rxRegs := by
  obtain h | ⟨-, -, h⟩ | ⟨-, h⟩ | ⟨-, h⟩ | ⟨-, h⟩ := s.txAct_cases <;> rw [h]
  · exact .of_eq rfl
  · exact .of_eq rfl
  · exact s.apply_rxChange i .send
  · exact .of_eq rfl
  · exact s.apply_rxChange i .endTx

/-- Entering `BLOCKED` closes the reception when it is entered from `RECV` (42_fsm.md R149, R150). -/
theorem State.enterBlocked_rxChange (i : Instr) (s : State) (origin : LinkState) :
    RxChange i s.rxRegs (s.enterBlocked origin).rxRegs := by
  unfold State.enterBlocked
  split
  · exact .closed s.link s.flags.endSeen id
  · exact .of_eq rfl

/-- Everything an operation that answers a next state can do to the receive registers: the FSM moves them by `Apply`,
`CLEARRX` and the fragments by their own rule, and every other operation writes none of them. -/
theorem exec_rxChange {i : Instr} {s t : State} (h : exec i s = .next t) : RxChange i s.rxRegs t.rxRegs := by
  cases exec_effect h with
  | octet o hi => exact State.apply_rxChange i { s with lastOctet := o } .uart
  | edge at_ sig hi hs => exact s.apply_rxChange i sig
  | apply sig hi => exact s.apply_rxChange i sig
  | gpio hi hs => exact s.apply_rxChange i .gpio
  | timer hi hs => exact State.apply_rxChange i { s with tmrArmed := false } .xtimer
  | dec o hi => exact .escWritten _ (.inr ⟨o, hi⟩)
  | init hi =>
    have hr := s.init_rxRegs
    exact hr ▸ .cleared .blocked (.inr (.inr (.inl hi)))
  | clear hi => exact .cleared s.link (hi.elim .inl fun hi => .inr (.inl hi))
  | discard n hi hw => exact .cleared s.link (.inr (.inr (.inr ⟨n, .inl hi⟩)))
  | tooSmall n hi hw hn => exact .cleared s.link (.inr (.inr (.inr ⟨n, .inr hi⟩)))
  | copied n octets hi hw hn hr => exact .cleared s.link (.inr (.inr (.inr ⟨n, .inr hi⟩)))
  | enterBlocked origin hi => exact s.enterBlocked_rxChange i origin
  | enterBlockedFromRecv hi => exact .closed s.link s.flags.endSeen id
  | act hi => exact s.txAct_rxChange i
  | echo l hi => exact .of_eq (s.echo_rxRegs l)
  | _ => exact .of_eq rfl

/-! ## What follows for the buffer and the flags -/

/-- R44 (c), in terms of the view. -/
def RxRegs.Clean (a : RxRegs) : Prop :=
  a.flags.dirty = false → a.link ≠ .recv → a.len = 0 ∧ a.flags.endSeen = false ∧ a.flags.esc = false

theorem State.cleanOk_iff (s : State) : CleanOk s ↔ s.rxRegs.Clean := Iff.rfl

/-- `RECV` is left only with `DIRTY` set or by clearing all, so clean and not receiving stays empty. -/
theorem RxChange.clean {i : Instr} {a b : RxRegs} (hdec : ∀ o, i ≠ .dec o) (h : RxChange i a b) (hc : a.Clean) :
    b.Clean := by
  intro hd hl
  cases h with
  | moved l hs => exact hc hd fun hr => hl (hs hr)
  | escWritten e hi =>
    obtain hr | ⟨o, ho⟩ := hi
    · exact absurd hr hl
    · exact absurd ho (hdec o)
  | stored o hr => exact absurd hr hl
  | closed => cases hd
  | cleared => exact ⟨rfl, rfl, rfl⟩

/-- While dirty nothing is stored: the content stays, and the length and `DIRTY` stay or all is cleared. -/
theorem RxChange.of_dirty {i : Instr} {a b : RxRegs} (h : RxChange i a b) (hd : a.flags.dirty = true) :
    b.buf = a.buf ∧ ((b.len = a.len ∧ b.flags.dirty = true) ∨ (b.len = 0 ∧ b.flags = Flags.clear)) := by
  cases h with
  | moved => exact ⟨rfl, .inl ⟨rfl, hd⟩⟩
  | escWritten => exact ⟨rfl, .inl ⟨rfl, hd⟩⟩
  | stored o hl hclean => cases hd.symm.trans hclean
  | closed => exact ⟨rfl, .inl ⟨rfl, rfl⟩⟩
  | cleared => exact ⟨rfl, .inr ⟨rfl, rfl⟩⟩

/-- The only write is at `rx_len`. -/
theorem RxChange.read_other {i : Instr} {a b : RxRegs} (h : RxChange i a b) {x : Nat} (hx : x ≠ a.len) :
    b.buf.read x = a.buf.read x := by
  cases h with
  | stored o => exact Memory.read_write_other _ o hx
  | _ => rfl

theorem RxChange.len_cases {i : Instr} {a b : RxRegs} (h : RxChange i a b) :
    b.len = a.len ∨ b.len = 0 ∨ (b.len = a.len + 1 ∧ a.link = .recv ∧ b.link = .recv) := by
  cases h with
  | stored o hl => exact .inr (.inr ⟨rfl, hl, hl⟩)
  | cleared => exact .inr (.inl rfl)
  | _ => exact .inl rfl

/-- `END` and `DIRTY` go from 1 to 0 only by `CLEARRX`. -/
theorem RxChange.of_flag_cleared {i : Instr} {a b : RxRegs} (h : RxChange i a b)
    (hf : (a.flags.endSeen = true ∧ b.flags.endSeen = false) ∨ (a.flags.dirty = true ∧ b.flags.dirty = false)) :
    b.len = 0 ∧ b.flags = Flags.clear ∧ PerformsClearRx i := by
  have kept (he : a.flags.endSeen = true → b.flags.endSeen = true)
      (hd : a.flags.dirty = true → b.flags.dirty = true) : False := by
    obtain ⟨h1, h0⟩ | ⟨h1, h0⟩ := hf
    · exact absurd (he h1) (by simp [h0])
    · exact absurd (hd h1) (by simp [h0])
  cases h with
  | moved => exact (kept id id).elim
  | escWritten => exact (kept id id).elim
  | stored => exact (kept id id).elim
  | closed l e he => exact (kept he fun _ => rfl).elim
  | cleared l hi => exact ⟨rfl, rfl, hi⟩

/-- The receive memory's part of the invariant of R44 (b), R60 and R64: canonical form, no address outside `rx_buf`,
`rx_len` in range, every octet below it written. -/
structure RxRegs.Sound (a : RxRegs) : Prop where
  wf : a.buf.wf = true
  inRange : ∀ c ∈ a.buf, c.1 < Config.frameLen
  len_le : a.len ≤ Config.frameLen
  written : ∀ x < a.len, (a.buf.read x).isSome = true

/-- Appending at `rx_len` below `FRAME_LEN` keeps the memory sound. -/
theorem RxRegs.Sound.append {a : RxRegs} (h : a.Sound) (o : Byte) (hn : a.len < Config.frameLen) (f : Flags) :
    RxRegs.Sound { a with flags := f, buf := a.buf.write a.len o, len := a.len + 1 } where
  wf := Memory.wf_write _ o h.wf
  inRange c hc := by
    obtain rfl | hc := Memory.mem_write hc
    · exact hn
    · exact h.inRange c hc
  len_le := hn
  written x hx := by
    obtain hlt | rfl := Nat.lt_succ_iff_lt_or_eq.1 hx
    · rw [Memory.read_write_other _ o hlt.ne]
      exact h.written x hlt
    · rw [Memory.read_write_same]
      rfl

theorem RxChange.sound {i : Instr} {a b : RxRegs} (h : RxChange i a b) (ha : a.Sound) : b.Sound := by
  cases h with
  | stored o hl hd hn => exact ha.append o hn _
  | cleared => exact ⟨ha.wf, ha.inRange, Nat.zero_le _, fun x hx => absurd hx (Nat.not_lt_zero x)⟩
  | _ => exact ⟨ha.wf, ha.inRange, ha.len_le, ha.written⟩

/-- Settles O55 by `RxChange`: outside `RECV` only a bare `DEC` writes `flags.ESC`, and `RECV` is left dirty or
cleared. -/
theorem cleanBufferInvariantKept : Obligations.CleanBufferInvariantKept :=
  fun _ s t hdec hs h => t.cleanOk_iff.2 ((exec_rxChange h).clean hdec (s.cleanOk_iff.1 hs))

/-- Settles O56 by `RxChange`: an octet is stored only while clean. -/
theorem dirtyBufferIsFrozen : Obligations.DirtyBufferIsFrozen :=
  fun _ _ _ hd h => (exec_rxChange h).of_dirty hd

/-- Settles O57 by `RxChange`: the one change that stores an octet does so at `rx_len`, in `RECV`. -/
theorem bufferGrowsOnlyAtItsEnd : Obligations.BufferGrowsOnlyAtItsEnd :=
  fun _ _ _ h => ⟨fun _ ha => (exec_rxChange h).read_other ha, (exec_rxChange h).len_cases⟩

/-- Settles O59 by `RxChange`: the only change that takes `END` or `DIRTY` from 1 to 0 is `CLEARRX`. -/
theorem endFlagClearedOnlyByClearRx : Obligations.EndFlagClearedOnlyByClearRx :=
  fun _ _ _ h hf => (exec_rxChange h).of_flag_cleared hf

end Sys2Proof.Machine
end

section
/-! PROOFS. The registers that the FSM never writes, what an operation can do to them (`StationChange`), and with both
views the invariant of the memories (20_memory.md R63, R64). -/

namespace Sys2Proof.Machine

/-- The registers that no `Apply` and no sequencer step writes: `mac`, `options`, `timeout_ticks`, `last_octet` (R26,
R27, R30, R31) and the caller's buffer (log 21). -/
structure StationRegs where
  mac : Vector Byte 6
  options : Options
  ticks : Nat
  lastOctet : Byte
  callerBuf : Memory

/-- The station registers of a state. -/
def State.stationRegs (s : State) : StationRegs where
  mac := s.mac
  options := s.options
  ticks := s.timeoutTicks
  lastOctet := s.lastOctet
  callerBuf := s.callerBuf

@[simp] theorem State.echo_stationRegs (s : State) (l : LinkState) : (s.echo l).stationRegs = s.stationRegs := by
  simp [State.stationRegs]

@[simp] theorem State.settle_stationRegs (s : State) : s.settle.stationRegs = s.stationRegs := by
  simp [State.stationRegs]

@[simp] theorem State.enterBlocked_stationRegs (s : State) (origin : LinkState) :
    (s.enterBlocked origin).stationRegs = s.stationRegs := by
  unfold State.enterBlocked
  split <;> rfl

@[simp] theorem State.recvOctet_stationRegs (s : State) : s.recvOctet.stationRegs = s.stationRegs := by
  obtain h | h | h := s.recvOctet_cases <;> rw [h]
  · rfl
  · rfl
  · unfold State.append
    split <;> rfl

theorem State.edge_stationRegs {s t : State} {sig : Signal} (h : s.edge sig = some t) :
    t.stationRegs = s.stationRegs := by
  obtain ⟨-, -, rfl⟩ | ⟨-, -, rfl⟩ | ⟨-, -, rfl⟩ | ⟨-, -, rfl⟩ | ⟨-, -, rfl⟩ | ⟨-, -, rfl⟩ |
    ⟨-, -, rfl⟩ | ⟨-, -, rfl⟩ := State.edge_cases h
  · exact s.enterBlocked_stationRegs .undef
  · rfl
  · rfl
  · rfl
  · exact s.recvOctet_stationRegs
  · exact s.enterBlocked_stationRegs .recv
  · rfl
  · exact s.enterBlocked_stationRegs .send

@[simp] theorem State.apply_stationRegs (s : State) (sig : Signal) : (s.apply sig).stationRegs = s.stationRegs := by
  obtain ⟨t, ht, h⟩ | ⟨-, h⟩ := s.apply_cases sig <;> rw [h]
  rw [State.settle_stationRegs, State.edge_stationRegs ht]

@[simp] theorem State.txAct_stationRegs (s : State) : s.txAct.stationRegs = s.stationRegs := by
  obtain h | ⟨-, -, h⟩ | ⟨-, h⟩ | ⟨-, h⟩ | ⟨-, h⟩ := s.txAct_cases <;> rw [h]
  · rfl
  · exact s.apply_stationRegs .send
  · rfl
  · exact s.apply_stationRegs .endTx

/-- These registers after an operation that answers a next state. -/
inductive StationChange (i : Instr) (a : StationRegs) : StationRegs → Prop
  /-- None of them is written. -/
  | kept : StationChange i a a
  /-- An octet arrives (42_fsm.md R143). -/
  | arrived (o : Byte) (hi : Arrives i o) : StationChange i a { a with lastOctet := o }
  /-- `SET.PROMISCUOUSMODE` (45_config.md R235). -/
  | optionSet (v : PromiscArg) (b : Bool) (hi : i = .setPromiscuousMode v) :
      StationChange i a { a with options := { promisc := b } }
  /-- `RECV.COPY` (43_receive.md R191). -/
  | delivered (l : List Byte) : StationChange i a { a with callerBuf := a.callerBuf.writeAll 0 l }

theorem StationChange.of_eq {i : Instr} {a b : StationRegs} (h : b = a) : StationChange i a b := by
  subst h
  exact .kept

/-- Everything an operation that answers a next state can do to the station registers: an arriving octet,
`SET.PROMISCUOUSMODE` and `RECV.COPY` write one each, every other operation none. -/
theorem exec_stationChange {i : Instr} {s t : State} (h : exec i s = .next t) :
    StationChange i s.stationRegs t.stationRegs := by
  cases exec_effect h with
  | octet o hi =>
    have hr := State.apply_stationRegs { s with lastOctet := o } .uart
    exact hr ▸ .arrived o hi
  | edge at_ sig hi hs => exact .of_eq (s.apply_stationRegs sig)
  | apply sig hi => exact .of_eq (s.apply_stationRegs sig)
  | gpio hi hs => exact .of_eq (s.apply_stationRegs .gpio)
  | timer hi hs => exact .of_eq (State.apply_stationRegs { s with tmrArmed := false } .xtimer)
  | init hi => exact .of_eq (State.apply_stationRegs { s.clearBuffer with link := .undef } .init)
  | setPromisc v b hi => exact .optionSet v b hi
  | copied n octets hi hw hn hr => exact .delivered octets
  | enterBlocked origin hi => exact .of_eq (s.enterBlocked_stationRegs origin)
  | act hi => exact .of_eq s.txAct_stationRegs
  | echo l hi => exact .of_eq (s.echo_stationRegs l)
  | _ => exact .kept

theorem StationChange.persistent {i : Instr} {a b : StationRegs} (h : StationChange i a b) :
    b.mac = a.mac ∧ b.ticks = a.ticks ∧ (b.options = a.options ∨ ∃ v, i = .setPromiscuousMode v) ∧
    (b.lastOctet = a.lastOctet ∨ Arrives i b.lastOctet) := by
  cases h with
  | arrived o hi => exact ⟨rfl, rfl, .inl rfl, .inr hi⟩
  | optionSet v b hi => exact ⟨rfl, rfl, .inr ⟨v, hi⟩, .inl rfl⟩
  | _ => exact ⟨rfl, rfl, .inl rfl, .inl rfl⟩

theorem StationChange.callerBuf_wf {i : Instr} {a b : StationRegs} (h : StationChange i a b)
    (ha : a.callerBuf.wf = true) : b.callerBuf.wf = true := by
  cases h with
  | delivered l => exact Memory.wf_writeAll 0 l ha
  | _ => exact ha

/-- Settles O58 by `StationChange`: `mac` and `timeout_ticks` are in no change. -/
theorem persistentRegistersKept : Obligations.PersistentRegistersKept :=
  fun _ _ _ h => (exec_stationChange h).persistent

/-- Settles O52: `rx_buf` and `rx_len` by `RxChange`, the caller's buffer by `StationChange`. -/
theorem receiveMemoryInvariantKept : Obligations.ReceiveMemoryInvariantKept := by
  rintro s t ⟨hwf, hrange, hcaller⟩ ⟨hlen, hwritten⟩ h
  obtain ⟨-, rfl⟩ | ⟨packet, rest, i, -, -, hi⟩ := step_cases h
  · exact ⟨⟨hwf, hrange, hcaller⟩, hlen, hwritten⟩
  · have hb : t.rxRegs.Sound := (exec_rxChange hi).sound ⟨hwf, hrange, hlen, hwritten⟩
    exact ⟨⟨hb.wf, hb.inRange, (exec_stationChange hi).callerBuf_wf hcaller⟩, hb.len_le, hb.written⟩

end Sys2Proof.Machine
end

section
/-! PROOFS. The pairing of the timer and of the GPIO mask with `state` (10_state.md R44 (d), (e)). -/

namespace Sys2Proof.Machine

@[simp] theorem State.enterBlocked_gpioIrqEn (s : State) (origin : LinkState) :
    (s.enterBlocked origin).gpioIrqEn = true := by
  unfold State.enterBlocked
  split <;> rfl

@[simp] theorem State.enterBlocked_tmrArmed (s : State) (origin : LinkState) :
    (s.enterBlocked origin).tmrArmed = true := by
  unfold State.enterBlocked
  split <;> rfl

theorem timerMaskOk_of_blocked {s : State} (hl : s.link = .blocked) (ht : s.tmrArmed = true)
    (hm : s.gpioIrqEn = true) : TimerMaskOk s := by
  simp [TimerMaskOk, hl, ht, hm]

theorem timerMaskOk_of_busy {s : State} (hl : s.link = .recv ∨ s.link = .send) (ht : s.tmrArmed = true)
    (hm : s.gpioIrqEn = false) : TimerMaskOk s := by
  obtain hl | hl := hl <;> simp [TimerMaskOk, hl, ht, hm]

/-- Entering `BLOCKED` establishes the pairing from every state. -/
theorem State.enterBlocked_timerMaskOk (s : State) (origin : LinkState) :
    TimerMaskOk { s.enterBlocked origin with link := .blocked } :=
  timerMaskOk_of_blocked rfl (s.enterBlocked_tmrArmed origin) (s.enterBlocked_gpioIrqEn origin)

/-- In `RECV` every octet arms the timer again; only the end octet leaves for `BLOCKED` and opens the mask. -/
theorem State.recvOctet_timerMaskOk {s : State} (hl : s.link = .recv) (hs : TimerMaskOk s) :
    TimerMaskOk s.recvOctet := by
  have hm : s.gpioIrqEn = false := by simpa [hl] using hs.2
  obtain h | h | h := s.recvOctet_cases <;> rw [h]
  · exact timerMaskOk_of_busy (.inl hl) rfl hm
  · exact State.enterBlocked_timerMaskOk _ .recv
  · unfold State.append
    split
    · exact timerMaskOk_of_busy (.inl hl) rfl hm
    · exact timerMaskOk_of_busy (.inl hl) rfl hm

/-- Every edge keeps the pairing of the timer and the mask with `state`, but for `BLOCKED`+`XTIMER`, which counts on the
expiry to have disarmed the timer (R148). -/
theorem State.edge_timerMaskOk {s t : State} {sig : Signal} (h : s.edge sig = some t) (hs : TimerMaskOk s)
    (hx : ¬(s.link = .blocked ∧ sig = .xtimer)) : TimerMaskOk t := by
  obtain ⟨-, -, rfl⟩ | ⟨hl, hsig, -⟩ | ⟨-, -, rfl⟩ | ⟨-, -, rfl⟩ | ⟨hl, -, rfl⟩ | ⟨-, -, rfl⟩ | ⟨hl, -, rfl⟩ |
    ⟨-, -, rfl⟩ := State.edge_cases h
  · exact s.enterBlocked_timerMaskOk .undef
  · exact absurd ⟨hl, hsig⟩ hx
  · exact timerMaskOk_of_busy (.inl rfl) rfl rfl
  · exact timerMaskOk_of_busy (.inr rfl) rfl rfl
  · exact State.recvOctet_timerMaskOk hl hs
  · exact s.enterBlocked_timerMaskOk .recv
  · exact timerMaskOk_of_busy (.inr hl) rfl rfl
  · exact s.enterBlocked_timerMaskOk .send

theorem State.settle_timerMaskOk {s : State} (hs : TimerMaskOk s) : TimerMaskOk s.settle := by
  simpa [TimerMaskOk] using hs

theorem State.apply_timerMaskOk {s : State} {sig : Signal} (hs : TimerMaskOk s)
    (hx : ¬(s.link = .blocked ∧ sig = .xtimer)) : TimerMaskOk (s.apply sig) := by
  obtain ⟨t, ht, h⟩ | ⟨-, h⟩ := s.apply_cases sig <;> rw [h]
  · exact State.settle_timerMaskOk (State.edge_timerMaskOk ht hs hx)
  · exact hs

/-- The expiry of the armed timer, disarming it first, keeps the pairing in each of the three states that arm it
(R145, R148, R158, R162). -/
theorem State.timer_timerMaskOk {s : State} (hs : TimerMaskOk s) (ha : s.tmrArmed = true) :
    TimerMaskOk (({ s with tmrArmed := false } : State).apply .xtimer) := by
  obtain ⟨htimer, hmask⟩ := hs
  obtain hl | hl | hl := htimer.1 ha
  · have hm : s.gpioIrqEn = true := hmask.2 (.inl hl)
    simp [State.apply, State.edge, hl, hm, TimerMaskOk]
  · simp [State.apply, State.edge, hl, TimerMaskOk]
  · simp [State.apply, State.edge, hl, TimerMaskOk]

theorem State.txAct_timerMaskOk {s : State} (hs : TimerMaskOk s) : TimerMaskOk s.txAct := by
  obtain h | ⟨-, -, h⟩ | ⟨-, h⟩ | ⟨-, h⟩ | ⟨-, h⟩ := s.txAct_cases <;> rw [h]
  · exact hs
  · exact hs
  · exact State.apply_timerMaskOk (sig := .send) hs (by simp)
  · exact hs
  · exact State.apply_timerMaskOk (sig := .endTx) hs (by simp)

/-- The pairing is kept by every operation that is no fragment. -/
theorem exec_timerMaskOk {i : Instr} {s t : State} (hi : isFragment i = false) (hs : TimerMaskOk s)
    (h : exec i s = .next t) : TimerMaskOk t := by
  cases exec_effect h with
  | octet o => exact State.apply_timerMaskOk (s := { s with lastOctet := o }) hs (by simp)
  | edge at_ sig hrow hl =>
    refine State.apply_timerMaskOk hs ?_
    rintro ⟨hb, rfl⟩
    obtain rfl : at_ = .blocked := hl.symm.trans hb
    obtain rfl : i = .blockedXtimer := by simpa [edgeRows] using hrow
    cases hi
  | gpio => exact State.apply_timerMaskOk hs (by simp)
  | timer _ ha => exact State.timer_timerMaskOk hs ha
  | init =>
    rw [State.apply_init_of_undef rfl]
    exact State.settle_timerMaskOk (State.enterBlocked_timerMaskOk _ .undef)
  | act => exact State.txAct_timerMaskOk hs
  | echo l => simpa [TimerMaskOk] using hs
  | apply _ hrow => subst hrow; cases hi
  | enterBlocked _ hrow => subst hrow; cases hi
  | enterRecv hrow => subst hrow; cases hi
  | enterSend hrow => subst hrow; cases hi
  | _ => exact hs

/-- Settles O54: with nothing pending the state stays; otherwise the pending operation is no fragment. -/
theorem timerAndMaskInvariantKept : Obligations.TimerAndMaskInvariantKept := by
  intro s t hs h hfrag
  obtain ⟨-, rfl⟩ | ⟨packet, rest, i, hp, hd, hi⟩ := step_cases h
  · exact hs
  · exact exec_timerMaskOk (s := { s with pending := rest }) (hfrag packet rest i hp hd) hs hi

end Sys2Proof.Machine
end

section
/-! PROOFS. The state after reset (10_state.md R45). -/

namespace Sys2Proof.Machine

/-- No octet has been written at reset, so each one reads as the reset content (R45; log 10). -/
theorem State.reset_readRx {a : Nat} (ha : a < Config.frameLen) :
    State.reset.readRx a = .ok (Config.rxBufReset a) := by
  rw [State.readRx, if_neg (Nat.not_le.2 ha), State.reset_rxOctet]

/-- `UNDEF` accepts no signal but `INIT` (R159). -/
theorem State.apply_of_undef {s : State} (hl : s.link = .undef) {sig : Signal} (h : sig ≠ .init) :
    s.apply sig = s := by
  cases sig with
  | init => exact absurd rfl h
  | _ => simp [State.apply, State.edge, hl]

/-- Settles O50: the register values by `State.reset`, the signals by the row `UNDEF` of the transition table. -/
theorem resetIsInert : Obligations.ResetIsInert :=
  ⟨rfl, rfl, rfl, rfl, rfl, rfl, rfl, rfl, rfl, fun _ ha => State.reset_readRx ha,
    fun _ h => State.apply_of_undef rfl h, rfl, rfl⟩

/-- Settles O51: the memories are empty, the sequencer is off, and `T` is a positive number. -/
theorem resetMeetsTheInvariants : Obligations.ResetMeetsTheInvariants := by
  refine ⟨⟨rfl, ?_, rfl⟩, ⟨Nat.zero_le _, ?_⟩, ?_, fun _ _ => ⟨rfl, rfl, rfl⟩, Config.timeoutTicks.pos,
    Nat.zero_le _, trivial⟩
  · simp [State.reset]
  · simp [State.reset]
  · simp [TimerMaskOk, State.reset]

end Sys2Proof.Machine
end

section
/-! PROOFS. Where `rx_buf` is read, and that no read is out of range (20_memory.md R63, R64). -/

namespace Sys2Proof.Machine

/-- A read of octets that have been written answers them, at every index as it was written. -/
theorem State.readRxFrom_written {s : State} {n : Nat} (hn : n ≤ Config.frameLen)
    (hw : ∀ a < n, (s.rxBuf.read a).isSome = true) :
    ∃ l : List Byte, s.readRxFrom 0 n = .ok l ∧ l.length = n ∧ ∀ a < n, s.rxBuf.read a = l[a]? := by
  refine ⟨_, s.readRxFrom_total 0 n (by omega), by simp, fun a ha => ?_⟩
  obtain ⟨o, ho⟩ := Option.isSome_iff_exists.1 (hw a ha)
  simp [ho, ha, State.rxOctet_of_read ho]

/-- What a fault comes from: an index out of range in a read of octets below `rx_len`. -/
def ReadFaults (s : State) (f : Fault) : Prop := ∃ n ≤ s.rxLen, s.readRxFrom 0 n = .error f

/-- `ISR` reads the octets below `rx_len` (43_receive.md R182). -/
theorem isr_fault {s : State} {f : Fault} (h : execIsr s = .fault f) : ReadFaults s f := by
  unfold execIsr at h
  split at h
  · cases h
  · split at h
    · cases h
    · split at h
      · cases h
      · split at h <;> cases h
        exact ⟨s.rxLen, le_rfl, ‹_›⟩

/-- `RECV` reads the octets of the frame without its CRC field (R191). -/
theorem recvCopy_fault {n : Nat} {s : State} {f : Fault} (h : execRecvCopy n s = .fault f) : ReadFaults s f := by
  unfold execRecvCopy State.recvInto at h
  split at h
  · split at h
    · cases h
    · split at h <;> cases h
      exact ⟨s.frameSize, Nat.sub_le _ _, ‹_›⟩
  · cases h

theorem startTx_noFault (s t : State) : NoFault (s.startTx t) := by
  unfold State.startTx
  split <;> nofun

/-- Everything a fault of an operation can come from: `ISR` and `RECV` are the only ones that read `rx_buf`. -/
theorem exec_fault {i : Instr} {s : State} {f : Fault} (h : exec i s = .fault f) : ReadFaults s f := by
  cases i with
  | isr => exact isr_fault h
  | recvShort n => exact recvCopy_fault (n := n) h
  | recvCopy n => exact recvCopy_fault h
  | send p => exact absurd h (startTx_noFault _ _ f)
  | txFrame p => exact absurd h (startTx_noFault _ _ f)
  | txData c => exact absurd h (startTx_noFault _ _ f)
  | txOct c => exact absurd h (startTx_noFault _ _ f)
  | recvSize =>
    simp only [exec, execRecvSize] at h
    split at h <;> cases h
  | recvDrop n =>
    simp only [exec, execRecvDrop] at h
    split at h <;> cases h
  | getAddress n =>
    simp only [exec, execGetAddress] at h
    split at h <;> cases h
  | setPromiscuousMode v => cases v <;> cases h
  | apply c =>
    simp only [exec, execApply] at h
    split at h <;> cases h
  | _ => cases h

theorem exec_noFault (i : Instr) {s : State} (hl : s.rxLen ≤ Config.frameLen) : NoFault (exec i s) := by
  intro f h
  obtain ⟨n, hn, hr⟩ := exec_fault h
  rw [s.readRxFrom_total 0 n (by omega)] at hr
  cases hr

theorem step_noFault {s : State} (hl : s.rxLen ≤ Config.frameLen) : NoFault (step s) := by
  cases hp : s.pending with
  | nil =>
    rw [step_of_pending_nil hp]
    nofun
  | cons packet rest =>
    cases hd : decode packet with
    | ok i =>
      rw [step_of_decode_ok hp hd]
      exact exec_noFault i hl
    | error e =>
      rw [step_of_decode_error hp hd]
      nofun

/-- Settles O53: the only reads are of indices below `rx_len`, and a read inside the buffer answers. -/
theorem noStepFaults : Obligations.NoStepFaults :=
  ⟨fun _ hl => step_noFault hl, fun _ _ hs hn =>
    State.readRxFrom_written (hn.trans hs.1) fun a ha => hs.2 a (ha.trans_le hn)⟩

end Sys2Proof.Machine
end

section
/-! PROOFS. What cannot be seen (20_memory.md R64): a relational invariant, `SameBelow`, kept by the shared operations one
by one and then by every operation, with equal faults and refusals. -/

namespace Sys2Proof.Machine

/-! ## One state under two contents of `rx_buf` -/

/-- The same state with another content of `rx_buf`. -/
def State.withBuf (s : State) (m : Memory) : State := { s with rxBuf := m }

/-- Two states that differ above `rx_len` are one state under two contents of `rx_buf`. -/
theorem SameBelow.exists_withBuf {s t : State} (h : SameBelow s t) :
    ∃ m, t = s.withBuf m ∧ ∀ a < s.rxLen, (s.withBuf m).rxOctet a = s.rxOctet a := by
  obtain ⟨ht, hb⟩ := h
  exact ⟨t.rxBuf, ht, fun a ha => (State.rxOctet_congr rfl a).trans (hb a ha)⟩

/-- The form in which a straight-line operation, which neither reads nor writes `rx_buf`, keeps the relation: on
`s.withBuf m` it computes, field by field, its own result on `s` with the content `m`. -/
theorem sameBelow_withBuf {s : State} {m : Memory} (hb : ∀ a < s.rxLen, (s.withBuf m).rxOctet a = s.rxOctet a) :
    SameBelow s (s.withBuf m) :=
  ⟨rfl, hb⟩

/-- Two branches on the same condition are related when their arms are. -/
theorem rel_ite {α : Type} {R : α → α → Prop} {c : Prop} [Decidable c] {a a' b b' : α} (ht : c → R a a')
    (he : ¬c → R b b') : R (if c then a else b) (if c then a' else b') := by
  split
  · exact ht ‹_›
  · exact he ‹_›

/-! ## The shared operations keep the relation -/

section Kept
variable {s t : State}

theorem SameBelow.emit (h : SameBelow s t) (e : OutEvent) : SameBelow (s.emit e) (t.emit e) := by
  obtain ⟨m, rfl, hb⟩ := h.exists_withBuf
  exact sameBelow_withBuf hb

theorem SameBelow.answer (h : SameBelow s t) (r : OpResult) : SameBelow (s.answer r) (t.answer r) := by
  obtain ⟨m, rfl, hb⟩ := h.exists_withBuf
  exact sameBelow_withBuf hb

theorem SameBelow.link_eq (h : SameBelow s t) : t.link = s.link := by
  obtain ⟨m, rfl, -⟩ := h.exists_withBuf
  rfl

theorem SameBelow.setLink (h : SameBelow s t) (l : LinkState) :
    SameBelow { s with link := l } { t with link := l } := by
  obtain ⟨m, rfl, hb⟩ := h.exists_withBuf
  exact sameBelow_withBuf hb

theorem SameBelow.arm (h : SameBelow s t) (d : Nat) : SameBelow (s.arm d) (t.arm d) := by
  obtain ⟨m, rfl, hb⟩ := h.exists_withBuf
  exact sameBelow_withBuf hb

theorem SameBelow.txReturn (h : SameBelow s t) (r : OpResult) : SameBelow (s.txReturn r) (t.txReturn r) := by
  obtain ⟨m, rfl, hb⟩ := h.exists_withBuf
  exact sameBelow_withBuf hb

/-- After `CLEARRX` no octet is below `rx_len`. -/
theorem SameBelow.clearBuffer (h : SameBelow s t) : SameBelow s.clearBuffer t.clearBuffer := by
  obtain ⟨m, rfl, -⟩ := h.exists_withBuf
  exact sameBelow_withBuf fun a ha => absurd ha (Nat.not_lt_zero a)

theorem SameBelow.enterBlocked (h : SameBelow s t) (origin : LinkState) :
    SameBelow (s.enterBlocked origin) (t.enterBlocked origin) := by
  obtain ⟨m, rfl, hb⟩ := h.exists_withBuf
  exact rel_ite (fun _ => sameBelow_withBuf hb) fun _ => sameBelow_withBuf hb

/-- The octet that is appended is the same, and it is the only one that comes below `rx_len` (42_fsm.md R157). -/
theorem SameBelow.append (h : SameBelow s t) (o : Byte) : SameBelow (s.append o) (t.append o) := by
  obtain ⟨m, rfl, hb⟩ := h.exists_withBuf
  refine rel_ite (fun _ => ⟨rfl, fun a ha => ?_⟩) fun _ => sameBelow_withBuf hb
  have below (hne : a ≠ s.rxLen) : a < s.rxLen := lt_of_le_of_ne (Nat.le_of_lt_succ ha) hne
  calc
    _ = if a = s.rxLen then o else (s.withBuf m).rxOctet a := (s.withBuf m).rxOctet_write s.rxLen a o
    _ = if a = s.rxLen then o else s.rxOctet a := ite_congr rfl (fun _ => rfl) fun hne => hb a (below hne)
    _ = _ := (s.rxOctet_write s.rxLen a o).symm

theorem SameBelow.txCollide (h : SameBelow s t) (v : TxVerdict) : SameBelow (s.txCollide v) (t.txCollide v) := by
  obtain ⟨m, rfl, hb⟩ := h.exists_withBuf
  have ht : (s.withBuf m).txTask = s.txTask := rfl
  unfold State.txCollide
  rw [ht]
  split
  · exact rel_ite (fun _ => sameBelow_withBuf hb) fun _ => sameBelow_withBuf hb
  all_goals exact sameBelow_withBuf hb

theorem SameBelow.txVerified (h : SameBelow s t) : SameBelow s.txVerified t.txVerified := by
  obtain ⟨m, rfl, hb⟩ := h.exists_withBuf
  have ht : (s.withBuf m).txTask = s.txTask := rfl
  unfold State.txVerified
  rw [ht]
  split
  all_goals exact sameBelow_withBuf hb

/-- The sequencer's reaction looks at its own registers and `last_octet` (44_send.md R212). -/
theorem SameBelow.echo (h : SameBelow s t) (l : LinkState) : SameBelow (s.echo l) (t.echo l) := by
  obtain ⟨m, rfl, hb⟩ := h.exists_withBuf
  exact rel_ite
    (fun _ => rel_ite (fun _ => h.txCollide _) fun _ => rel_ite (fun _ => h.txCollide _) fun _ =>
      rel_ite (fun _ => sameBelow_withBuf hb) fun _ => h.txVerified)
    fun _ => h

theorem SameBelow.settle (h : SameBelow s t) : SameBelow s.settle t.settle := by
  obtain ⟨m, rfl, hb⟩ := h.exists_withBuf
  exact (h.emit _).echo _

/-- The verdict in `RECV` is on `last_octet`, not on the buffer (R155, R156, R157). -/
theorem SameBelow.recvOctet (h : SameBelow s t) : SameBelow s.recvOctet t.recvOctet := by
  obtain ⟨m, rfl, hb⟩ := h.exists_withBuf
  have hv : decVerdict (s.withBuf m).flags.esc (s.withBuf m).lastOctet = decVerdict s.flags.esc s.lastOctet := rfl
  unfold State.recvOctet
  rw [hv]
  split
  · exact sameBelow_withBuf hb
  · exact sameBelow_withBuf hb
  · exact (h.append _).arm _

/-- The two states take the same edge (42_fsm.md R142). -/
theorem SameBelow.edge (h : SameBelow s t) (sig : Signal) :
    Option.Rel SameBelow (s.edge sig) (t.edge sig) := by
  have hr := h.recvOctet
  obtain ⟨m, rfl, hb⟩ := h.exists_withBuf
  have hl : (s.withBuf m).link = s.link := rfl
  unfold State.edge
  rw [hl]
  split
  -- The sixth row is `RECV`+`UART`, the only one that can store an octet; the last are the refused pairs.
  case h_6 => exact .some hr
  case h_11 => exact .none
  all_goals exact .some (sameBelow_withBuf hb)

theorem SameBelow.apply (h : SameBelow s t) (sig : Signal) : SameBelow (s.apply sig) (t.apply sig) := by
  have he := h.edge sig
  unfold State.apply
  generalize s.edge sig = a at he ⊢
  generalize t.edge sig = b at he ⊢
  cases he with
  | none => exact h
  | some hr => exact hr.settle

theorem SameBelow.applyAt (h : SameBelow s t) (at_ : LinkState) (sig : Signal) :
    SameBelow (s.applyAt at_ sig) (t.applyAt at_ sig) := by
  have ha := h.apply sig
  obtain ⟨m, rfl, -⟩ := h.exists_withBuf
  exact rel_ite (fun _ => ha) fun _ => h

theorem SameBelow.uartReceive (h : SameBelow s t) (o : Byte) : SameBelow (s.uartReceive o) (t.uartReceive o) := by
  obtain ⟨m, rfl, hb⟩ := h.exists_withBuf
  exact SameBelow.apply (sameBelow_withBuf (s := { s with lastOctet := o }) hb) .uart

/-- Phase `TX_REQUEST`: the phase that follows depends on the state that `Apply` settles in (44_send.md R208). -/
theorem SameBelow.txRequest (h : SameBelow s t) : SameBelow s.txRequest t.txRequest := by
  obtain ⟨m, hm, hb⟩ := (h.apply .send).exists_withBuf
  unfold State.txRequest
  rw [hm]
  exact sameBelow_withBuf hb

theorem SameBelow.txAct (h : SameBelow s t) : SameBelow s.txAct t.txAct := by
  have hreq := h.txRequest
  have hend := h.apply .endTx
  obtain ⟨m, rfl, hb⟩ := h.exists_withBuf
  have hp : (s.withBuf m).txPhase = s.txPhase := rfl
  unfold State.txAct
  rw [hp]
  split
  · exact h
  · exact rel_ite (fun _ => sameBelow_withBuf hb) fun _ => h
  · exact hreq
  · exact sameBelow_withBuf hb
  · exact h
  · exact hend.txReturn _

end Kept

/-! ## Equal answers -/

section Answers
variable {s t : State}

/-- Two operations that go on to related states cannot be told apart. -/
theorem SameBelow.next (h : SameBelow s t) : SameOutcome (.next s) (.next t) := h

/-- A read below `rx_len` answers the same octets in both states. -/
theorem SameBelow.readRxFrom (h : SameBelow s t) {n : Nat} (hn : n ≤ s.rxLen) :
    t.readRxFrom 0 n = s.readRxFrom 0 n :=
  s.readRxFrom_congr t 0 n fun k hk => by simpa using h.2 k (hk.trans_le hn)

/-- `APPLY` returns the state it settles in, which is the same (R141). -/
theorem SameBelow.applySignal (h : SameBelow s t) (c : BitVec 4) : SameOutcome (execApply c s) (execApply c t) := by
  unfold execApply
  split
  · have ha := h.apply ‹_›
    rw [ha.link_eq]
    exact ha.answer _
  · rw [h.link_eq]
    exact h.answer _

theorem SameBelow.startTx (h : SameBelow s t) {u v : State} (huv : SameBelow u v) :
    SameOutcome (s.startTx u) (t.startTx v) := by
  obtain ⟨m, rfl, -⟩ := h.exists_withBuf
  exact rel_ite (R := SameOutcome) (fun _ => huv) fun _ => rfl

theorem SameBelow.validate (h : SameBelow s t) (octets : List Byte) :
    SameBelow (s.validate octets) (t.validate octets) := by
  have hc := h.clearBuffer
  obtain ⟨m, rfl, -⟩ := h.exists_withBuf
  exact rel_ite (fun _ => hc) fun _ => rel_ite (fun _ => hc) fun _ => h.emit .rxComplete

/-- `ISR` reads the octets below `rx_len` and no others (43_receive.md R182). -/
theorem SameBelow.isr (h : SameBelow s t) : SameOutcome (execIsr s) (execIsr t) := by
  have hc := h.clearBuffer
  have hv := h.validate
  have hr := h.readRxFrom le_rfl
  obtain ⟨m, rfl, -⟩ := h.exists_withBuf
  have hl : (s.withBuf m).rxLen = s.rxLen := rfl
  refine rel_ite (R := SameOutcome) (fun _ => h) fun _ =>
    rel_ite (fun _ => hc) fun _ => rel_ite (fun _ => hc) fun _ => ?_
  rw [hl, hr]
  split
  · rfl
  · exact hv _

/-- The octets delivered to the caller go to the caller's buffer, not to `rx_buf` (R191). -/
theorem SameBelow.recvCopied (h : SameBelow s t) (octets : List Byte) :
    SameBelow (s.recvCopied octets) (t.recvCopied octets) := by
  obtain ⟨m, rfl, hb⟩ := h.exists_withBuf
  have hc : SameBelow { s with callerBuf := s.callerBuf.writeAll 0 octets }
      { s.withBuf m with callerBuf := s.callerBuf.writeAll 0 octets } := sameBelow_withBuf hb
  exact hc.clearBuffer.answer (.size s.frameSize)

/-- `RECV` reads the octets below `rx_len - CRC_LEN` and no others (R191). -/
theorem SameBelow.recvInto (h : SameBelow s t) (n : Nat) : SameOutcome (s.recvInto n) (t.recvInto n) := by
  have hr := h.readRxFrom (n := s.frameSize) (Nat.sub_le _ _)
  have hc := h.recvCopied
  obtain ⟨m, rfl, -⟩ := h.exists_withBuf
  have hf : (s.withBuf m).frameSize = s.frameSize := rfl
  refine rel_ite (R := SameOutcome) (fun _ => h.clearBuffer.answer _) fun _ => ?_
  rw [hf, hr]
  split
  · rfl
  · exact hc _

/-- The window of `RECV` is a matter of `flags` and `rx_len` (R187). -/
theorem SameBelow.inWindow (h : SameBelow s t) {a b : Host.Outcome State Fault Refusal} (hab : SameOutcome a b) :
    SameOutcome (if s.recvWindow then a else .refused .recvOutsideWindow)
      (if t.recvWindow then b else .refused .recvOutsideWindow) := by
  obtain ⟨m, rfl, -⟩ := h.exists_withBuf
  exact rel_ite (fun _ => hab) fun _ => rfl

/-- Every operation keeps the relation and stops alike: only `ISR` and `RECV` read `rx_buf`, below `rx_len`, and what the
FSM appends at `rx_len` is the same octet in both states. -/
theorem SameBelow.exec (h : SameBelow s t) (i : Instr) : SameOutcome (exec i s) (exec i t) := by
  obtain ⟨m, rfl, hb⟩ := h.exists_withBuf
  cases i with
  | wireEsc => exact h.uartReceive _
  | wireEnd => exact h.uartReceive _
  | wireData o => exact h.uartReceive o
  | uartRx o => exact h.uartReceive o
  | undefInit => exact h.applyAt .undef .init
  | blockedGpio => exact h.applyAt .blocked .gpio
  | blockedXtimer => exact h.applyAt .blocked .xtimer
  | idleGpio => exact h.applyAt .idle .gpio
  | idleSend => exact h.applyAt .idle .send
  | recvUartEsc => exact h.applyAt .recv .uart
  | recvUartEnd => exact h.applyAt .recv .uart
  | recvUartData => exact h.applyAt .recv .uart
  | recvXtimer => exact h.applyAt .recv .xtimer
  | sendUart => exact h.applyAt .send .uart
  | sendXtimer => exact h.applyAt .send .xtimer
  | sendEnd => exact h.applyAt .send .endTx
  | apply c => exact h.applySignal c
  | gpioFall => exact SameBelow.next (rel_ite (fun _ => h.apply .gpio) fun _ => h)
  | timerFire =>
    have hd : SameBelow { s with tmrArmed := false } { s.withBuf m with tmrArmed := false } := sameBelow_withBuf hb
    exact SameBelow.next (rel_ite (fun _ => hd.apply .xtimer) fun _ => h)
  | init =>
    have hu : SameBelow { s.clearBuffer with link := .undef } { (s.withBuf m).clearBuffer with link := .undef } :=
      h.clearBuffer.setLink .undef
    exact (hu.apply .init).answer (.status 0)
  | clearRx => exact h.clearBuffer
  | enterBlocked origin => exact h.enterBlocked origin
  | isr => exact h.isr
  | recvSize => exact h.inWindow (h.answer _)
  | recvDrop n => exact h.inWindow (h.clearBuffer.answer _)
  | recvShort n => exact h.inWindow (h.recvInto n)
  | recvCopy n => exact h.inWindow (h.recvInto n)
  | getAddress n => exact rel_ite (R := SameOutcome) (fun _ => rfl) fun _ => h.answer _
  | setPromiscuousMode v =>
    cases v with
    | neither raw => rfl
    | _ => exact SameBelow.next (sameBelow_withBuf hb)
  | send p => exact h.startTx (sameBelow_withBuf hb)
  | txFrame p => exact h.startTx (sameBelow_withBuf hb)
  | txData c => exact h.startTx (sameBelow_withBuf hb)
  | txOct c => exact h.startTx (sameBelow_withBuf hb)
  | txStep => exact h.txAct
  | txEcho l => exact h.echo l
  | _ => exact SameBelow.next (sameBelow_withBuf hb)

end Answers

/-- Settles O60: the relational invariant `SameBelow` through every operation. -/
theorem unwrittenOctetsAreUnobservable : Obligations.UnwrittenOctetsAreUnobservable :=
  fun i _ _ h => h.exec i

end Sys2Proof.Machine
end

section
/-! PROOFS. Packets and operations (30_encoding.md R90, R91, R100, R101, R103; the packet layout is log 2): the decoder
reads back what the encoder writes, and it names only well-formed operations. -/

namespace Sys2Proof

/-! ## Operand octets -/

/-- Trailing octets that are padding change nothing. -/
theorem exactly_of_padding {k : Nat} {ops : List Byte} (i : Instr) (h : (ops.drop k).all (· = 0) = true) :
    exactly k ops i = .ok i := by
  rw [exactly, if_pos h]

/-- Four octets hold a length of 32 bits. -/
theorem octetsLen_lenOctets {n : Nat} (h : lenFits n = true) : octetsLen (lenOctets n) = n := by
  have hn : n < 2 ^ 32 := by simpa [lenFits] using h
  simp only [octetsLen, lenOctets, List.getD_cons_zero, List.getD_cons_succ, BitVec.toNat_ofNat]
  omega

/-- Four octets hold no more than 32 bits. -/
theorem lenFits_octetsLen (ops : List Byte) : lenFits (octetsLen ops) = true := by
  have h0 := (ops.getD 0 0).isLt
  have h1 := (ops.getD 1 0).isLt
  have h2 := (ops.getD 2 0).isLt
  have h3 := (ops.getD 3 0).isLt
  refine decide_eq_true ?_
  unfold octetsLen
  omega

theorem PromiscArg.ofOctet_octet {v : PromiscArg} (h : v.wf = true) : PromiscArg.ofOctet v.octet = v := by
  cases v with
  | enable => rfl
  | disable => rfl
  | neither raw =>
    obtain ⟨h0, h1⟩ : raw ≠ 0 ∧ raw ≠ 1 := by simpa [PromiscArg.wf] using h
    rw [PromiscArg.octet, PromiscArg.ofOctet, if_neg h0, if_neg h1]

theorem PromiscArg.ofOctet_wf (b : Byte) : (PromiscArg.ofOctet b).wf = true := by
  unfold PromiscArg.ofOctet
  split
  · rfl
  · split
    · rfl
    · exact Bool.and_eq_true_iff.2 ⟨decide_eq_true ‹_›, decide_eq_true ‹_›⟩

@[simp] theorem LinkState.ofCode_code (l : LinkState) : LinkState.ofCode l.code = some l := by
  cases l <;> rfl

@[simp] theorem Signal.ofCode_code (sig : Signal) : Signal.ofCode sig.code = some sig := by
  cases sig <;> rfl

/-! ## Edge codes -/

/-- A code is made of its two nibbles (R100). -/
theorem edgeCode_nibbles (c : Byte) : edgeCode (c.extractLsb' 4 4) (c.extractLsb' 0 4) = c :=
  BitVec.extractLsb'_append_extractLsb' (w := 4) (len := 4)

/-- The edges of the table but 0x34, whose three rows a form octet tells apart, are the codes of R100. -/
theorem edgeOfCode_eq_none_iff {c : Byte} (hc : c ≠ 0x34) : edgeOfCode c = none ↔ c ∉ edgeCodes := by
  unfold edgeOfCode
  repeat' split
  all_goals simp_all [edgeCodes]

/-- Every code that is no edge is read as `REFUSED` (R101). -/
theorem decodeEdge_of_notMem {c : Byte} (h : c ∉ edgeCodes) (ops : List Byte) :
    decodeEdge c ops = exactly 0 ops (.refused (c.extractLsb' 4 4) (c.extractLsb' 0 4)) := by
  have hc : c ≠ 0x34 := fun e => h (e ▸ by decide)
  rw [decodeEdge, if_neg hc, (edgeOfCode_eq_none_iff hc).2 h]

/-! ## Decoding what was encoded -/

/-- The rows with an operand of four octets. -/
theorem exactly_lenOctets (b : Byte) (n : Nat) (i : Instr) : exactly 5 (b :: lenOctets n) i = .ok i :=
  exactly_of_padding i rfl

theorem decode_wireData {o : Byte} (h : isReserved o = false) : decode (encode (.wireData o)) = .ok (.wireData o) := by
  obtain ⟨hend, hesc⟩ : o ≠ Config.endOctet ∧ o ≠ Config.escOctet := by simpa [isReserved] using h
  show exactly 0 [] _ = _
  rw [if_neg hesc, if_neg hend]
  rfl

theorem decode_refused {sg st : BitVec 4} (h : edgeCode sg st ∉ edgeCodes) :
    decode (encode (.refused sg st)) = .ok (.refused sg st) := by
  show decodeEdge (edgeCode sg st) [] = _
  rw [decodeEdge_of_notMem h, edgeCode, BitVec.extractLsb'_append_eq_left, BitVec.extractLsb'_append_eq_right]
  rfl

theorem decode_recvDrop {n : Nat} (h0 : 0 < n) (h : lenFits n = true) :
    decode (encode (.recvDrop n)) = .ok (.recvDrop n) := by
  show exactly 5 (0 :: lenOctets n)
    (if octetsLen (lenOctets n) = 0 then .recvSize else .recvDrop (octetsLen (lenOctets n))) = _
  rw [octetsLen_lenOctets h, if_neg h0.ne', exactly_lenOctets]

theorem decode_recvShort {n : Nat} (h : lenFits n = true) : decode (encode (.recvShort n)) = .ok (.recvShort n) := by
  show exactly 5 (1 :: lenOctets n) (.recvShort (octetsLen (lenOctets n))) = _
  rw [octetsLen_lenOctets h, exactly_lenOctets]

theorem decode_recvCopy {n : Nat} (h : lenFits n = true) : decode (encode (.recvCopy n)) = .ok (.recvCopy n) := by
  show exactly 5 (2 :: lenOctets n) (.recvCopy (octetsLen (lenOctets n))) = _
  rw [octetsLen_lenOctets h, exactly_lenOctets]

theorem decode_getAddress {n : Nat} (h : lenFits n = true) :
    decode (encode (.getAddress n)) = .ok (.getAddress n) := by
  show exactly 5 (optAddress :: lenOctets n) (.getAddress (octetsLen (lenOctets n))) = _
  rw [octetsLen_lenOctets h, exactly_lenOctets]

theorem decode_getOther {opt : Byte} (h0 : opt ≠ optPromiscuousMode) (h1 : opt ≠ optAddress) :
    decode (encode (.getOther opt)) = .ok (.getOther opt) := by
  show decodeGet [opt] = _
  rw [decodeGet, List.getD_cons_zero, if_neg h0, if_neg h1]
  rfl

theorem decode_setPromiscuousMode {v : PromiscArg} (h : v.wf = true) :
    decode (encode (.setPromiscuousMode v)) = .ok (.setPromiscuousMode v) := by
  show exactly 2 [optPromiscuousMode, v.octet] (.setPromiscuousMode (PromiscArg.ofOctet v.octet)) = _
  rw [PromiscArg.ofOctet_octet h]
  rfl

theorem decode_setOther {opt : Byte} (value : List Byte) (h : opt ≠ optPromiscuousMode) :
    decode (encode (.setOther opt value)) = .ok (.setOther opt value) := by
  show decodeSet (opt :: value) = _
  rw [decodeSet, List.getD_cons_zero, if_neg h]
  rfl

theorem decode_crc16Update (crc : Word16) (o : Byte) :
    decode (encode (.crc16Update crc o)) = .ok (.crc16Update crc o) := by
  show Except.ok (Instr.crc16Update (crc.extractLsb' 8 8 ++ crc.extractLsb' 0 8) o) = _
  rw [BitVec.extractLsb'_append_extractLsb' (w := 8) (len := 8)]

theorem decode_apply (sg : BitVec 4) : decode (encode (.apply sg)) = .ok (.apply sg) := by
  show decodeSignal [sg ++ (0 : BitVec 4)] = _
  simp only [decodeSignal, BitVec.extractLsb'_append_eq_left, BitVec.extractLsb'_append_eq_right, if_true]

/-- A state operand is its code under a high nibble of zeros (R97). -/
theorem decodeLink_code (l : LinkState) (f : LinkState → Instr) :
    decodeLink [(0 : BitVec 4) ++ l.code] f = .ok (f l) := by
  cases l <;> rfl

/-- Settles O1, by the rows of the table: a row whose operands are octets or lists of octets computes, and a row with a
condition on its operands, or an operand spread over octets, has its lemma above. -/
theorem decodeReadsBackEncode : Obligations.DecodeReadsBackEncode := by
  intro i h
  cases i with
  | wireData o => exact decode_wireData (by simpa [Instr.wf] using h)
  | refused sg st => exact decode_refused (by simpa [Instr.wf] using h)
  | recvDrop n =>
    obtain ⟨h0, hn⟩ : 0 < n ∧ lenFits n = true := by simpa [Instr.wf] using h
    exact decode_recvDrop h0 hn
  | recvShort n => exact decode_recvShort h
  | recvCopy n => exact decode_recvCopy h
  | getAddress n => exact decode_getAddress h
  | getOther opt =>
    obtain ⟨h0, h1⟩ : opt ≠ optPromiscuousMode ∧ opt ≠ optAddress := by simpa [Instr.wf] using h
    exact decode_getOther h0 h1
  | setPromiscuousMode v => exact decode_setPromiscuousMode h
  | setOther opt value => exact decode_setOther value (by simpa [Instr.wf] using h)
  | crc16Update crc o => exact decode_crc16Update crc o
  | apply sg => exact decode_apply sg
  | enterBlocked l => exact decodeLink_code l .enterBlocked
  | txEcho l => exact decodeLink_code l .txEcho
  | _ => rfl

/-! ## What the decoder names -/

/-- The outcome of a decoder is an error or a well-formed operation. -/
def NamesWellFormed (r : Except DecodeError Instr) : Prop := ∀ i, r = .ok i → i.wf = true

theorem NamesWellFormed.ok {i : Instr} (h : i.wf = true) : NamesWellFormed (.ok i) := by
  rintro _ ⟨⟩
  exact h

theorem NamesWellFormed.error (e : DecodeError) : NamesWellFormed (.error e) := nofun

theorem NamesWellFormed.ite {c : Prop} [Decidable c] {a b : Except DecodeError Instr} (ht : c → NamesWellFormed a)
    (he : ¬c → NamesWellFormed b) : NamesWellFormed (if c then a else b) := by
  split
  · exact ht ‹_›
  · exact he ‹_›

theorem namesWellFormed_exactly (k : Nat) (ops : List Byte) {i : Instr} (h : i.wf = true) :
    NamesWellFormed (exactly k ops i) :=
  .ite (fun _ => .ok h) fun _ => .error _

/-- The data class takes no reserved octet (R91). -/
theorem namesWellFormed_decodeWire (c : Byte) (ops : List Byte) : NamesWellFormed (decodeWire c ops) := by
  refine namesWellFormed_exactly 0 ops ?_
  split
  · rfl
  · split
    · rfl
    · simp [Instr.wf, isReserved, *]

theorem namesWellFormed_decodeRecvUart (ops : List Byte) : NamesWellFormed (decodeRecvUart ops) :=
  .ite (fun _ => namesWellFormed_exactly 1 ops rfl) fun _ =>
  .ite (fun _ => namesWellFormed_exactly 1 ops rfl) fun _ =>
  .ite (fun _ => namesWellFormed_exactly 1 ops rfl) fun _ => .error _

/-- The rows of the edges have no operand. -/
theorem wf_of_edgeOfCode {c : Byte} {i : Instr} (h : edgeOfCode c = some i) : i.wf = true := by
  unfold edgeOfCode at h
  repeat' split at h
  all_goals cases h
  all_goals rfl

/-- `REFUSED` takes no edge code (R101). -/
theorem namesWellFormed_decodeEdge (c : Byte) (ops : List Byte) : NamesWellFormed (decodeEdge c ops) := by
  refine .ite (fun _ => namesWellFormed_decodeRecvUart ops) fun hc => ?_
  split
  · exact namesWellFormed_exactly 0 ops (wf_of_edgeOfCode ‹_›)
  · refine namesWellFormed_exactly 0 ops ?_
    have hm : c ∉ edgeCodes := (edgeOfCode_eq_none_iff hc).1 ‹_›
    simpa [Instr.wf, edgeCode_nibbles] using hm

theorem namesWellFormed_decodeRecv (ops : List Byte) : NamesWellFormed (decodeRecv ops) := by
  have hl := lenFits_octetsLen ops.tail
  refine .ite (fun _ => namesWellFormed_exactly 5 ops ?_) fun _ =>
    .ite (fun _ => namesWellFormed_exactly 5 ops hl) fun _ =>
    .ite (fun _ => namesWellFormed_exactly 5 ops hl) fun _ => .error _
  split
  · rfl
  · rename_i h0
    simp [Instr.wf, hl, Nat.pos_of_ne_zero h0]

/-- An option with a row of its own is not read as another option (R103). -/
theorem namesWellFormed_decodeGet (ops : List Byte) : NamesWellFormed (decodeGet ops) :=
  .ite (fun _ => namesWellFormed_exactly 1 ops rfl) fun h0 =>
  .ite (fun _ => namesWellFormed_exactly 5 ops (lenFits_octetsLen ops.tail)) fun h1 =>
  namesWellFormed_exactly 1 ops (Bool.and_eq_true_iff.2 ⟨decide_eq_true h0, decide_eq_true h1⟩)

theorem namesWellFormed_decodeSet (ops : List Byte) : NamesWellFormed (decodeSet ops) :=
  .ite (fun _ => namesWellFormed_exactly 2 ops (PromiscArg.ofOctet_wf _)) fun h0 => .ok (decide_eq_true h0)

theorem namesWellFormed_decodeHost (n : Byte) (ops : List Byte) : NamesWellFormed (decodeHost n ops) :=
  .ite (fun _ => namesWellFormed_exactly 0 ops rfl) fun _ =>
  .ite (fun _ => .ok rfl) fun _ =>
  .ite (fun _ => namesWellFormed_exactly 0 ops rfl) fun _ =>
  .ite (fun _ => namesWellFormed_decodeRecv ops) fun _ =>
  .ite (fun _ => namesWellFormed_decodeGet ops) fun _ =>
  .ite (fun _ => namesWellFormed_decodeSet ops) fun _ => .error _

theorem namesWellFormed_decodeOctet (ops : List Byte) {f : Byte → Instr} (hf : ∀ o, (f o).wf = true) :
    NamesWellFormed (decodeOctet ops f) := by
  unfold decodeOctet
  split
  · exact .ok (hf _)
  · exact .error _
  · exact .error _

theorem namesWellFormed_decodeLink (ops : List Byte) {f : LinkState → Instr} (hf : ∀ l, (f l).wf = true) :
    NamesWellFormed (decodeLink ops f) := by
  unfold decodeLink
  split
  · split
    · exact .ite (fun _ => .ok (hf _)) fun _ => .error _
    · exact .error _
  · exact .error _
  · exact .error _

theorem namesWellFormed_decodeSignal (ops : List Byte) : NamesWellFormed (decodeSignal ops) := by
  unfold decodeSignal
  split
  · exact .ite (fun _ => .ok rfl) fun _ => .error _
  · exact .error _
  · exact .error _

theorem namesWellFormed_decodeCrcUpdate (ops : List Byte) : NamesWellFormed (decodeCrcUpdate ops) := by
  unfold decodeCrcUpdate
  split
  · exact .ok rfl
  · exact .error _
  · exact .error _

/-- The rows of the procedures, in the table's order (R104). -/
theorem namesWellFormed_decodeProc (n : Byte) (ops : List Byte) : NamesWellFormed (decodeProc n ops) :=
  .ite (fun _ => namesWellFormed_decodeCrcUpdate ops) fun _ =>
  .ite (fun _ => .ok rfl) fun _ =>
  .ite (fun _ => .ok rfl) fun _ =>
  .ite (fun _ => namesWellFormed_decodeOctet ops fun _ => rfl) fun _ =>
  .ite (fun _ => .ok rfl) fun _ =>
  .ite (fun _ => namesWellFormed_decodeOctet ops fun _ => rfl) fun _ =>
  .ite (fun _ => .ok rfl) fun _ =>
  .ite (fun _ => .ok rfl) fun _ =>
  .ite (fun _ => namesWellFormed_decodeSignal ops) fun _ =>
  .ite (fun _ => namesWellFormed_decodeLink ops fun _ => rfl) fun _ =>
  .ite (fun _ => namesWellFormed_exactly 0 ops rfl) fun _ =>
  .ite (fun _ => namesWellFormed_exactly 0 ops rfl) fun _ =>
  .ite (fun _ => namesWellFormed_exactly 0 ops rfl) fun _ =>
  .ite (fun _ => namesWellFormed_exactly 0 ops rfl) fun _ =>
  .ite (fun _ => namesWellFormed_exactly 0 ops rfl) fun _ =>
  .ite (fun _ => namesWellFormed_exactly 0 ops rfl) fun _ =>
  .ite (fun _ => namesWellFormed_decodeOctet ops fun _ => rfl) fun _ =>
  .ite (fun _ => namesWellFormed_decodeOctet ops fun _ => rfl) fun _ =>
  .ite (fun _ => .ok rfl) fun _ =>
  .ite (fun _ => namesWellFormed_exactly 0 ops rfl) fun _ =>
  .ite (fun _ => namesWellFormed_decodeLink ops fun _ => rfl) fun _ =>
  .ite (fun _ => namesWellFormed_decodeOctet ops fun _ => rfl) fun _ =>
  .ite (fun _ => namesWellFormed_exactly 0 ops rfl) fun _ =>
  .ite (fun _ => namesWellFormed_exactly 0 ops rfl) fun _ => .error _

theorem namesWellFormed_decodeAny (c : Byte) (ops : List Byte) : NamesWellFormed (decodeAny c ops) :=
  .ite (fun _ => namesWellFormed_decodeEdge c ops) fun _ =>
  .ite (fun _ => namesWellFormed_decodeHost c ops) fun _ => namesWellFormed_decodeWire c ops

theorem namesWellFormed_decode (l : List Byte) : NamesWellFormed (decode l) :=
  match l with
  | [] => .error _
  | [c] => namesWellFormed_decodeAny c []
  | c :: _ :: ops =>
    .ite (fun _ => namesWellFormed_decodeAny c ops) fun _ =>
    .ite (fun _ => namesWellFormed_decodeWire c ops) fun _ =>
    .ite (fun _ => namesWellFormed_decodeEdge c ops) fun _ =>
    .ite (fun _ => namesWellFormed_decodeHost c ops) fun _ =>
    .ite (fun _ => namesWellFormed_decodeProc c ops) fun _ => .error _

/-- Settles O2, decoder by decoder along the branches of `decode`. -/
theorem decodedOperationsAreWellFormed : Obligations.DecodedOperationsAreWellFormed :=
  namesWellFormed_decode

/-- Settles O3: twelve packets, decoded. -/
theorem tableWordsDecodeToTheirRows : Obligations.TableWordsDecodeToTheirRows :=
  ⟨rfl, rfl, rfl, rfl, rfl, rfl, rfl, rfl, rfl, rfl, rfl, rfl⟩

end Sys2Proof
end

section
/-! PROOFS. The ten edges: their codes (30_encoding.md R100), the pairs that are none (R101, 42_fsm.md R159), and the rows
that name them (R141; log 16, log 17). -/

namespace Sys2Proof.Machine

/-- The FSM has an edge exactly at the ten pairs of R142, whatever the other registers hold. -/
theorem State.edge_isSome_iff (s : State) (sig : Signal) :
    (s.edge sig).isSome = true ↔ (s.link, sig) ∈ edgePairs := by
  unfold State.edge
  -- The 30 cells of the transition table (42_fsm.md R142).
  cases s.link <;> cases sig <;> simp [edgePairs, edgeRows]

/-- The codes of R100 are the codes of the ten pairs. -/
theorem edgeCode_mem_edgeCodes_iff (l : LinkState) (sig : Signal) :
    edgeCode sig.code l.code ∈ edgeCodes ↔ (l, sig) ∈ edgePairs := by
  cases l <;> cases sig <;> decide

/-- Settles O4: both are the ten pairs of `edgePairs`. -/
theorem edgeCodesNameTheEdges : Obligations.EdgeCodesNameTheEdges :=
  fun s sig => (s.edge_isSome_iff sig).trans (edgeCode_mem_edgeCodes_iff s.link sig).symm

/-- A refused pair changes nothing (R159). -/
theorem State.apply_of_notMem {s : State} {sig : Signal} (h : (s.link, sig) ∉ edgePairs) : s.apply sig = s := by
  obtain ⟨t, ht, -⟩ | ⟨-, hs⟩ := s.apply_cases sig
  · exact absurd ((s.edge_isSome_iff sig).1 (by rw [ht, Option.isSome_some])) h
  · exact hs

/-- `APPLY` of a signal's code applies the signal and returns the settled state (R141). -/
theorem exec_apply_code (s : State) (sig : Signal) :
    exec (.apply sig.code) s = .next ((s.apply sig).answer (.link (s.apply sig).link)) := by
  simp only [exec, execApply, Signal.ofCode_code]

/-- Settles O23: a refused pair has no edge, and the row `REFUSED` is the identity. -/
theorem refusedPairsChangeNothing : Obligations.RefusedPairsChangeNothing := by
  refine ⟨fun s sig h => ?_, fun _ _ _ => rfl⟩
  have hs := State.apply_of_notMem h
  refine ⟨hs, ?_⟩
  rw [exec_apply_code, hs]
  rfl

/-- Each row of an edge applies the edge's signal in the edge's state (R141). -/
theorem exec_edgeRow {r : LinkState × Signal × Instr} (h : r ∈ edgeRows) (s : State) :
    exec r.2.2 s = .next (s.applyAt r.1 r.2.1) := by
  simp only [edgeRows, List.mem_cons, List.not_mem_nil, or_false] at h
  obtain rfl | rfl | rfl | rfl | rfl | rfl | rfl | rfl | rfl | rfl | rfl | rfl := h <;> rfl

/-- Settles O25: an edge row tests its state first, and the rows of one code have one meaning. -/
theorem rowsOfOneCodeAreOneOperation : Obligations.RowsOfOneCodeAreOneOperation := by
  refine ⟨fun s r hr hl => ?_, fun _ _ => ⟨rfl, rfl, rfl⟩⟩
  rw [exec_edgeRow hr, State.applyAt, if_neg hl]

end Sys2Proof.Machine
end

section
/-! PROOFS. Running a list of operations, piece by piece (00_scope.md R11). -/

namespace Sys2Proof.Machine

theorem execAll_cons {i : Instr} {l : List Instr} {s t : State} (h : exec i s = .next t) :
    execAll (i :: l) s = execAll l t := by
  simp only [execAll, h]

theorem execAll_append {l m : List Instr} {s t : State} (h : execAll l s = .next t) :
    execAll (l ++ m) s = execAll m t := by
  induction l generalizing s with
  | nil =>
    cases h
    rfl
  | cons i l ih =>
    simp only [execAll] at h
    split at h
    · rename_i u hu
      exact (execAll_cons hu).trans (ih h)
    · cases h
    · cases h

/-- An octet's arrival (42_fsm.md R143). -/
theorem execAll_uartRx (o : Byte) (l : List Instr) (s : State) :
    execAll (.uartRx o :: l) s = execAll l (s.uartReceive o) := rfl

/-- A step of the sequencer (44_send.md R206). -/
theorem execAll_txStep (l : List Instr) (s : State) : execAll (.txStep :: l) s = execAll l s.txAct := rfl

end Sys2Proof.Machine
end

section
/-! PROOFS. Single edges of the transition table (42_fsm.md R142), and an octet that arrives where it is heard (R143). -/

namespace Sys2Proof.Machine

section Edges
variable {s t : State}

theorem State.apply_of_edge {sig : Signal} (h : s.edge sig = some t) : s.apply sig = t.settle := by
  simp only [State.apply, h]

/-- With no echo awaited an accepted signal takes its edge and emits one `TRANSITION` (R164). -/
theorem State.apply_of_edge_idle {sig : Signal} (h : s.edge sig = some t) (hp : t.txPhase ≠ .waitEcho) :
    s.apply sig = t.emit (.transition t.link) := by
  rw [State.apply_of_edge h, State.settle_idle hp]

theorem State.edge_gpio (h : s.link = .blocked ∨ s.link = .idle) :
    s.edge .gpio = some { s.enterRecvFresh with link := .recv } := by
  obtain h | h := h <;> simp only [State.edge, h]

theorem State.edge_send_of_idle (h : s.link = .idle) : s.edge .send = some { s.enterSend with link := .send } := by
  simp only [State.edge, h]

theorem State.edge_uart_of_recv (h : s.link = .recv) : s.edge .uart = some s.recvOctet := by
  simp only [State.edge, h]

theorem State.edge_uart_of_send (h : s.link = .send) : s.edge .uart = some s.enterSend := by
  simp only [State.edge, h]

theorem State.edge_endTx_of_send (h : s.link = .send) :
    s.edge .endTx = some { s.enterBlocked .send with link := .blocked } := by
  simp only [State.edge, h]

/-- In `RECV` an octet is decoded (R155 to R157). -/
theorem State.uartReceive_of_recv {o : Byte} (h : s.link = .recv) :
    s.uartReceive o = ({ s with lastOctet := o } : State).recvOctet.settle :=
  State.apply_of_edge (State.edge_uart_of_recv h)

/-- In `SEND` an octet arms the time-out again and is not decoded (R161). -/
theorem State.uartReceive_of_send {o : Byte} (h : s.link = .send) :
    s.uartReceive o = ({ s with lastOctet := o } : State).enterSend.settle :=
  State.apply_of_edge (State.edge_uart_of_send h)

end Edges

end Sys2Proof.Machine
end

section
/-! PROOFS. The wire form of a frame, element by element (41_codec.md R135, 44_send.md R206). -/

namespace Sys2Proof.Machine

/-- The CRC of a sequence is the running value after its last octet (40_crc.md R122). -/
theorem crcFrame_append (l m : List Byte) : crcFrame (l ++ m) = crcFold (crcFrame l) m :=
  List.foldl_append

/-- One more octet of the payload is one more step of the running CRC (R209). -/
theorem crcFrame_take_succ {p : List Byte} {k : Nat} (hk : k < p.length) :
    crcFrame (p.take (k + 1)) = crcUpdate (crcFrame (p.take k)) (p.getD k 0) := by
  rw [List.take_add_one, List.getElem?_eq_getElem hk, crcFrame_append, List.getD_eq_getElem p 0 hk]
  rfl

/-- The elements are the payload, the CRC field and the bare end octet. -/
theorem wireElems_length (p : List Byte) : (wireElems p).length = p.length + 3 := by
  simp [wireElems, crcField]

theorem wireUpTo_zero (p : List Byte) : wireUpTo p 0 = [] := rfl

theorem wireUpTo_succ {p : List Byte} {k : Nat} {e : List Byte} (h : (wireElems p)[k]? = some e) :
    wireUpTo p (k + 1) = wireUpTo p k ++ e := by
  rw [wireUpTo, List.take_add_one, h]
  simp [wireUpTo]

/-- All the elements together are the wire form. -/
theorem wireUpTo_length (p : List Byte) : wireUpTo p (p.length + 3) = wireOctets p := by
  rw [wireUpTo, ← wireElems_length, List.take_length]
  simp [wireElems, wireOctets, encOctets, List.flatMap]

/-- The wire form of the element the sequencer computes (R206): up to the CRC field the encoded octet, then the bare end
octet. -/
theorem wireElems_getElem? {p : List Byte} {k : Nat} (hk : k ≤ p.length + 2) :
    (wireElems p)[k]? = some (if k ≤ p.length + 1 then encOctet (frameElem p (crcFrame (p.take k)) k)
      else [frameElem p (crcFrame (p.take k)) k]) := by
  obtain h | h := Nat.lt_or_ge k p.length
  · have hk1 : k ≤ p.length + 1 := by omega
    simp [wireElems, crcField, frameElem, h, hk1, List.getElem?_append]
  · obtain ⟨j, rfl⟩ := Nat.exists_eq_add_of_le h
    have htake : p.take (p.length + j) = p := List.take_of_length_le h
    obtain rfl | rfl | rfl : j = 0 ∨ j = 1 ∨ j = 2 := by omega
    all_goals simp [wireElems, crcField, frameElem, htake]

end Sys2Proof.Machine
end

section
/-! PROOFS. A send on an ideal medium (30_encoding.md R106, 44_send.md R205 to R213, R217): what the registers hold after
each element (`Sending`), kept from one element to the next. -/

namespace Sys2Proof.Machine

/-! ## The steps of the sequencer by phase (R206) -/

section Phases
variable {s : State}

theorem State.txAct_of_waitIdle (hp : s.txPhase = .waitIdle) (hl : s.link = .idle) :
    s.txAct = { s with txPhase := .request } := by
  simp only [State.txAct, hp, if_pos hl]

theorem State.txAct_of_request (hp : s.txPhase = .request) : s.txAct = s.txRequest := by
  simp only [State.txAct, hp]

theorem State.txAct_of_put (hp : s.txPhase = .put) : s.txAct = s.putOctet s.txNextOctet := by
  simp only [State.txAct, hp]

theorem State.txAct_of_finish (hp : s.txPhase = .finish) : s.txAct = (s.apply .endTx).txReturn s.txDone := by
  simp only [State.txAct, hp]

/-- From `IDLE` the request is accepted (R208). -/
theorem State.txRequest_of_idle (hl : s.link = .idle) (hp : s.txPhase ≠ .waitEcho) :
    s.txRequest =
      { ({ s.enterSend with link := .send } : State).emit (.transition .send) with txPhase := .put } := by
  have ha := State.apply_of_edge_idle (State.edge_send_of_idle hl) hp
  rw [State.txRequest, ha]
  rfl

end Phases

/-! ## An octet and its echo -/

/-- The state in which the echo of the octet that `TX_PUT` wrote is verified: the octet is written (R203), heard back in
`SEND` (42_fsm.md R161), and the `TRANSITION` is emitted. -/
def State.echoed (s : State) : State :=
  ({ s.putOctet s.txNextOctet with lastOctet := s.txNextOctet } : State).enterSend.emit (.transition s.link)

/-- The right octet heard back in `SEND` is verified (R212): an escape octet before its element, or the element. -/
theorem State.echo_of_eq {s : State} (hp : s.txPhase = .waitEcho) (ho : s.lastOctet = s.txExpect) :
    s.echo .send = if s.txNeedsEsc && !s.txSub then { s with txSub := true, txPhase := .put } else s.txVerified := by
  rw [State.echo, if_pos hp, if_neg (not_not.2 rfl), if_neg (not_not.2 ho)]

/-- Writing an octet and hearing its echo in `SEND` verifies it. -/
theorem execAll_put_echo {s : State} (hl : s.link = .send) (hp : s.txPhase = .put) :
    execAll [.txStep, .uartRx s.txNextOctet] s =
      .next (if s.txNeedsEsc && !s.txSub then { s.echoed with txSub := true, txPhase := .put }
        else s.echoed.txVerified) := by
  have hecho : (s.putOctet s.txNextOctet).uartReceive s.txNextOctet = s.echoed.echo s.link :=
    State.uartReceive_of_send hl
  rw [execAll_txStep, State.txAct_of_put hp, execAll_uartRx, hecho, hl, State.echo_of_eq rfl rfl]
  rfl

/-! ## The elements -/

/-- The registers of a `SEND p` started in `s`, on its first attempt, with `k` elements verified and, if `sub`, the escape
octet of the next one (R206, R209, R210). -/
structure Sending (s : State) (p : List Byte) (k : Nat) (sub : Bool) (t : State) : Prop where
  task : t.txTask = .send
  payload : t.txPayload = p
  retries : t.txRetries = Config.maxRetries
  phase : t.txPhase = if k ≤ p.length + 2 then .put else .finish
  pos : t.txPos = k
  crc : t.txCrc = crcFrame (p.take k)
  txSub : t.txSub = sub
  written : t.uartOctets = s.uartOctets ++ wireUpTo p k ++ if sub then [Config.escOctet] else []
  rx : t.rxRegs = { s.rxRegs with link := .send }
  results : t.results = s.results

/-- The operations by which the octets `w` are written and echoed. -/
def echoOps (w : List Byte) : List Instr := w.flatMap fun o => [.txStep, .uartRx o]

theorem echoOps_append (v w : List Byte) : echoOps (v ++ w) = echoOps v ++ echoOps w :=
  List.flatMap_append

theorem State.echoed_uartOctets (s : State) : s.echoed.uartOctets = s.uartOctets ++ [s.txNextOctet] := by
  simp [State.echoed, State.uartOctets, State.enterSend, State.arm]

section Elements
variable {s t : State} {p : List Byte} {k : Nat} {sub : Bool}

theorem Sending.link (h : Sending s p k sub t) : t.link = .send := congrArg RxRegs.link h.rx

theorem Sending.phase_put (h : Sending s p k sub t) (hk : k ≤ p.length + 2) : t.txPhase = .put := by
  rw [h.phase, if_pos hk]

theorem Sending.txElem (h : Sending s p k sub t) : t.txElem = frameElem p (crcFrame (p.take k)) k := by
  simp only [State.txElem, h.task, h.payload, h.crc, h.pos]

/-- The wire form of the next element, by whether it needs an escape. -/
theorem Sending.wireElems (h : Sending s p k sub t) (hk : k ≤ p.length + 2) :
    (wireElems p)[k]? = some (if t.txNeedsEsc then [Config.escOctet, t.txElem] else [t.txElem]) := by
  rw [wireElems_getElem? hk, ← h.txElem]
  simp only [State.txNeedsEsc, State.txEscapable, h.task, h.payload, h.pos, encOctet]
  by_cases hk1 : k ≤ p.length + 1 <;> simp [hk1]

/-- The escape octet of an element that needs one. -/
theorem Sending.escape (h : Sending s p k false t) (hk : k ≤ p.length + 2) (hn : t.txNeedsEsc = true) :
    ∃ u, execAll (echoOps [Config.escOctet]) t = .next u ∧ u.txElem = t.txElem ∧ Sending s p k true u := by
  have hc : (t.txNeedsEsc && !t.txSub) = true := by simp [hn, h.txSub]
  have ho : t.txNextOctet = Config.escOctet := by rw [State.txNextOctet, if_pos hc]
  have he := execAll_put_echo h.link (h.phase_put hk)
  rw [if_pos hc, ho] at he
  refine ⟨_, he, rfl, h.task, h.payload, h.retries, (if_pos hk).symm, h.pos, h.crc, rfl, ?_, h.rx, h.results⟩
  show t.echoed.uartOctets = _
  rw [t.echoed_uartOctets, h.written, ho]
  simp

/-- The octet of the element itself, after its escape octet if it needs one. -/
theorem Sending.octet (h : Sending s p k sub t) (hk : k ≤ p.length + 2) (hc : (t.txNeedsEsc && !t.txSub) = false)
    (hw : wireUpTo p (k + 1) = wireUpTo p k ++ (if sub then [Config.escOctet] else []) ++ [t.txElem]) :
    ∃ u, execAll (echoOps [t.txElem]) t = .next u ∧ Sending s p (k + 1) false u := by
  have ho : t.txNextOctet = t.txElem := by rw [State.txNextOctet, hc]; rfl
  have htask : t.echoed.txTask = .send := h.task
  have he := execAll_put_echo h.link (h.phase_put hk)
  rw [hc, if_neg Bool.false_ne_true, ho, State.txVerified, htask] at he
  refine ⟨t.echoed.txAdvance, he, h.task, h.payload, h.retries, ?_, congrArg (· + 1) h.pos, ?_, rfl, ?_, h.rx,
    h.results⟩
  · show (if t.txPos + 1 ≤ t.txPayload.length + 2 then TxPhase.put else .finish) = _
    rw [h.pos, h.payload]
  · show (if t.txPos < t.txPayload.length then crcUpdate t.txCrc (t.txPayload.getD t.txPos 0) else t.txCrc) = _
    rw [h.pos, h.payload, h.crc]
    split
    · rw [crcFrame_take_succ ‹_›]
    · rw [List.take_of_length_le (by omega), List.take_of_length_le (by omega)]
  · show t.echoed.uartOctets = _
    rw [t.echoed_uartOctets, h.written, ho, hw]
    simp

/-- One element: its escape octet, if it needs one, and its octet. -/
theorem Sending.element (h : Sending s p k false t) (hk : k ≤ p.length + 2) {e : List Byte}
    (he : (Machine.wireElems p)[k]? = some e) :
    ∃ u, execAll (echoOps e) t = .next u ∧ Sending s p (k + 1) false u := by
  have hw := wireUpTo_succ he
  obtain rfl := Option.some_inj.1 ((h.wireElems hk).symm.trans he)
  cases hn : t.txNeedsEsc with
  | false =>
    rw [hn] at hw
    exact h.octet hk (by simp [hn]) (by simpa using hw)
  | true =>
    rw [hn] at hw
    obtain ⟨u, hu, hel, hs⟩ := h.escape hk hn
    obtain ⟨v, hv, hsv⟩ := hs.octet hk (by simp [hs.txSub]) (by simpa [hel] using hw)
    refine ⟨v, ?_, hsv⟩
    rw [hel] at hv
    exact (execAll_append (m := echoOps [t.txElem]) hu).trans hv

end Elements

/-- After the start, `k` elements written and echoed leave the sequencer at element `k`. -/
theorem Sending.upTo {s t : State} {p : List Byte} (h : Sending s p 0 false t) {k : Nat} (hk : k ≤ p.length + 3) :
    ∃ u, execAll (echoOps (wireUpTo p k)) t = .next u ∧ Sending s p k false u := by
  induction k with
  | zero => exact ⟨t, rfl, h⟩
  | succ k ih =>
    obtain ⟨u, hu, hs⟩ := ih (by omega)
    have he := hs.wireElems (by omega)
    obtain ⟨v, hv, hsv⟩ := hs.element (by omega) he
    refine ⟨v, ?_, hsv⟩
    rw [wireUpTo_succ he, echoOps_append, execAll_append hu, hv]

/-! ## From the start to the return -/

/-- The state after the start of `SEND p` (R207). -/
def State.sendStarted (s : State) (p : List Byte) : State :=
  ({ s with txTask := .send, txPayload := p, txRetries := Config.maxRetries } : State).startAttempt

theorem exec_send {s : State} (p : List Byte) (hp : s.txPhase = .off) : exec (.send p) s = .next (s.sendStarted p) :=
  if_pos hp

/-- From `IDLE` the start and two steps open the attempt (R207, R208). -/
theorem Sending.start {s : State} (p : List Byte) (hl : s.link = .idle) (hp : s.txPhase = .off) :
    ∃ t, execAll [.send p, .txStep, .txStep] s = .next t ∧ Sending s p 0 false t := by
  refine ⟨(s.sendStarted p).txAct.txAct, execAll_cons (exec_send p hp), ?_⟩
  have hwait := State.txAct_of_waitIdle (s := s.sendStarted p) rfl hl
  have hreq := State.txRequest_of_idle (s := { s.sendStarted p with txPhase := .request }) hl (by simp)
  rw [hwait, State.txAct_of_request rfl, hreq]
  refine ⟨rfl, rfl, rfl, rfl, rfl, rfl, rfl, ?_, rfl, rfl⟩
  simp [State.uartOctets, State.sendStarted, State.enterSend, State.arm, wireUpTo_zero]

/-- After the last element one step leaves `SEND` and returns the payload's length (R213). -/
theorem Sending.finish {s t : State} {p : List Byte} (h : Sending s p (p.length + 3) false t) :
    ∃ u, exec .txStep t = .next u ∧ u.uartOctets = s.uartOctets ++ wireOctets p ∧
      u.results = s.results ++ [.sent p.length] ∧ u.txPhase = .off ∧ u.txRetries = Config.maxRetries ∧
      u.rxRegs = { s.rxRegs with link := .blocked } := by
  have hp : t.txPhase = .finish := by rw [h.phase, if_neg (by omega)]
  have hd : t.txDone = .sent p.length := by simp only [State.txDone, h.task, h.payload]
  have hne : t.txPhase ≠ .waitEcho := by simp [hp]
  have ha := State.apply_of_edge_idle (State.edge_endTx_of_send h.link) hne
  refine ⟨t.txAct, rfl, ?_⟩
  rw [State.txAct_of_finish hp, hd, ha]
  refine ⟨?_, congrArg (· ++ _) h.results, rfl, h.retries, ?_⟩
  · have hw := h.written
    rw [wireUpTo_length] at hw
    simpa [State.uartOctets, State.enterBlocked] using hw
  · have hr := h.rx
    show { t.rxRegs with link := .blocked } = _
    rw [hr]

/-- Settles O46: the start, the elements of the wire form one by one, and the return. -/
theorem sendOnAnIdealMedium : Obligations.SendOnAnIdealMedium := by
  intro s p hl hp
  obtain ⟨t, ht, hs⟩ := Sending.start p hl hp
  obtain ⟨u, hu, hsu⟩ := hs.upTo le_rfl
  rw [wireUpTo_length] at hu
  obtain ⟨v, hv, hwritten, hresults, hphase, hretries, hrx⟩ := hsu.finish
  refine ⟨v, ?_, hwritten, hresults, hphase, hretries, congrArg RxRegs.link hrx, congrArg RxRegs.len hrx,
    congrArg RxRegs.buf hrx, congrArg RxRegs.flags hrx⟩
  rw [List.append_assoc, execAll_append ht]
  exact (execAll_append hu).trans (execAll_cons hv)

end Sys2Proof.Machine
end

section
/-! PROOFS. The residue law of the CRC (40_crc.md R124), for any running value. -/

namespace Sys2Proof.Machine

/-- The first CRC octet takes the high octet out of the running value: what is left is the low octet, moved up. -/
theorem crcUpdate_crcHigh (c : Word16) : crcUpdate c (crcHigh c) = (crcLow c).zeroExtend 16 <<< 8 := by
  refine BitVec.eq_of_getLsbD_eq fun i hi => ?_
  simp only [crcUpdate, crcHigh, crcLow]
  interval_cases i <;> simp

/-- The second CRC octet takes out that octet too. -/
theorem crcUpdate_moved (o : Byte) : crcUpdate (o.zeroExtend 16 <<< 8) o = 0 := by
  refine BitVec.eq_of_getLsbD_eq fun i hi => ?_
  simp only [crcUpdate]
  interval_cases i <;> simp

theorem crcFold_crcField (c : Word16) : crcFold c (crcField c) = 0 := by
  show crcUpdate (crcUpdate c (crcHigh c)) (crcLow c) = 0
  rw [crcUpdate_crcHigh, crcUpdate_moved]

/-- A frame followed by its CRC field has CRC zero (R124). -/
theorem crcFrame_append_crcField (d : List Byte) : crcFrame (d ++ crcField (crcFrame d)) = 0 := by
  rw [crcFrame_append, crcFold_crcField]

end Sys2Proof.Machine
end

section
/-! PROOFS. What the receive path does with a buffer whose octets are known (43_receive.md R182, R187, R191, R193). -/

namespace Sys2Proof.Machine

section Holding
variable {s : State} {l : List Byte}

/-- Reading from the start of the buffer answers its first octets. -/
theorem BufferHolds.readRxFrom (h : BufferHolds s l) {n : Nat} (hn : n ≤ l.length) :
    s.readRxFrom 0 n = .ok (l.take n) := by
  obtain ⟨-, hcap, hoct⟩ := h
  have hlen : (l.take n).length = n := List.length_take_of_le hn
  have hr := s.readRxFrom_eq 0 (l.take n) (by omega) fun k hk => by
    rw [List.getElem?_take_of_lt (by omega), Nat.zero_add]
    exact hoct k (by omega)
  rwa [hlen] at hr

/-- `ISR` accepts a complete frame that the filter and the CRC pass (R193). -/
theorem exec_isr_accepts (hb : BufferHolds s l) (hd : s.flags.dirty = true) (he : s.flags.endSeen = true)
    (hn : Config.minFrame ≤ l.length) (ha : s.addressPasses l = true) (hc : crcFrame l = 0) :
    exec .isr s = .next (s.emit .rxComplete) := by
  have hlen : s.rxLen = l.length := hb.1
  have hshort : ¬s.rxLen < Config.minFrame := by omega
  have hread : s.readRxFrom 0 s.rxLen = .ok l := by
    rw [hlen, hb.readRxFrom le_rfl, List.take_length]
  have hcheck : crcCheck l = true := decide_eq_true hc
  show execIsr s = _
  simp only [execIsr, hd, he, if_neg hshort, hread, State.validate, ha, hcheck]
  rfl

/-- `RECV.COPY` with room for the frame copies it without its CRC field (R191). -/
theorem exec_recvCopy_copies (hb : BufferHolds s l) (hw : s.recvWindow = true) {n : Nat} (hn : s.frameSize ≤ n) :
    exec (.recvCopy n) s = .next (s.recvCopied (l.take s.frameSize)) := by
  have hread := hb.readRxFrom (n := s.frameSize) (by rw [← hb.1]; exact Nat.sub_le _ _)
  show execRecvCopy n s = _
  simp only [execRecvCopy, hw, if_true, State.recvInto, if_neg (Nat.not_lt.2 hn), hread]

end Holding

end Sys2Proof.Machine
end

section
/-! PROOFS. A frame on the wire (30_encoding.md R92, 41_codec.md R135, 43_receive.md R180): what the registers hold after
each octet (`Hearing`), after the end octet (`Received`), and the delivery. -/

namespace Sys2Proof.Machine

/-! ## One octet in `RECV` -/

section Octets
variable {s : State} {o : Byte}

theorem State.recvOctet_of_escape (h : decVerdict s.flags.esc s.lastOctet = .escape) :
    s.recvOctet = ({ s with flags := { s.flags with esc := true } } : State).arm s.timeoutTicks := by
  simp only [State.recvOctet, h]

theorem State.recvOctet_of_frameEnd (h : decVerdict s.flags.esc s.lastOctet = .frameEnd) :
    s.recvOctet =
      { ({ s with flags := { s.flags with endSeen := true } } : State).enterBlocked .recv with link := .blocked } := by
  simp only [State.recvOctet, h]

theorem State.recvOctet_of_data (h : decVerdict s.flags.esc s.lastOctet = .data o) :
    s.recvOctet = (s.append o).arm s.timeoutTicks := by
  simp only [State.recvOctet, h]

@[simp] theorem State.recvOctet_txPhase (s : State) : s.recvOctet.txPhase = s.txPhase := by
  obtain h | h | h := s.recvOctet_cases <;> rw [h]
  · rfl
  · rfl
  · unfold State.append
    split <;> rfl

/-- With no echo awaited an octet in `RECV` is decoded and one `TRANSITION` emitted (R164). -/
theorem State.uartReceive_of_recv_idle (hl : s.link = .recv) (hp : s.txPhase ≠ .waitEcho) :
    s.uartReceive o = ({ s with lastOctet := o } : State).recvOctet.emit
      (.transition ({ s with lastOctet := o } : State).recvOctet.link) := by
  rw [State.uartReceive_of_recv hl, State.settle_idle (by simpa using hp)]

theorem State.append_of_room (hd : s.flags.dirty = false) (hn : s.rxLen < Config.frameLen) :
    s.append o =
      { s with flags := { s.flags with esc := false }, rxBuf := s.rxBuf.write s.rxLen o, rxLen := s.rxLen + 1 } := by
  simp [State.append, hd, hn]

/-- The buffer with one more octet at its end. -/
theorem BufferHolds.append {t : State} {l : List Byte} (h : BufferHolds s l) (hn : l.length < Config.frameLen)
    (hbuf : t.rxBuf = s.rxBuf.write s.rxLen o) (hlen : t.rxLen = s.rxLen + 1) : BufferHolds t (l ++ [o]) := by
  obtain ⟨hl, -, hoct⟩ := h
  refine ⟨by simp [hlen, hl], by simpa using hn, fun a ha => ?_⟩
  have hw : t.rxOctet a = if a = l.length then o else s.rxOctet a := by
    rw [← hl, ← State.rxOctet_write]
    exact State.rxOctet_congr hbuf a
  rw [hw]
  split
  · simp [*]
  · have hlt : a < l.length := by simp at ha; omega
    rw [List.getElem?_append_left hlt, hoct a hlt]

end Octets

/-! ## A frame octet by octet -/

/-- The octets `w` arrive one after the other. -/
def State.hear (s : State) (w : List Byte) : State := w.foldl State.uartReceive s

theorem execAll_map_uartRx (w : List Byte) (l : List Instr) (s : State) :
    execAll (w.map .uartRx ++ l) s = execAll l (s.hear w) := by
  induction w generalizing s with
  | nil => rfl
  | cons o w ih => exact ih (s.uartReceive o)

theorem State.hear_append (s : State) (v w : List Byte) : s.hear (v ++ w) = (s.hear v).hear w :=
  List.foldl_append

/-- The station registers but `last_octet`, which every octet writes. -/
def State.stationBut (s : State) : StationRegs := { s.stationRegs with lastOctet := 0 }

/-- A station that opened reception in `s`, has heard the octets `l` and, if `esc`, an escape octet after them; no echo is
awaited (R155, R157). -/
structure Hearing (s : State) (l : List Byte) (esc : Bool) (t : State) : Prop where
  link : t.link = .recv
  flags : t.flags = { dirty := false, endSeen := false, esc := esc }
  holds : BufferHolds t l
  quiet : t.txPhase ≠ .waitEcho
  station : t.stationBut = s.stationBut
  results : t.results = s.results
  trace : ∃ ls : List LinkState, t.trace = s.trace ++ ls.map .transition

/-- A station that heard the end of the frame `l`: the buffer is dirty and complete, and one `ISR_EVT` was emitted
(R156). -/
structure Received (s : State) (l : List Byte) (t : State) : Prop where
  link : t.link = .blocked
  flags : t.flags = { dirty := true, endSeen := true, esc := false }
  holds : BufferHolds t l
  station : t.stationBut = s.stationBut
  lastOctet : t.lastOctet = Config.endOctet
  results : t.results = s.results
  trace : ∃ ls : List LinkState, t.trace = s.trace ++ (ls.map .transition ++ [.isrEvt, .transition .blocked])

theorem exists_transitions_append {a b : List OutEvent} {l : LinkState}
    (h : ∃ ls : List LinkState, a = b ++ ls.map .transition) :
    ∃ ls : List LinkState, a ++ [.transition l] = b ++ ls.map .transition := by
  obtain ⟨ls, rfl⟩ := h
  exact ⟨ls ++ [l], by simp⟩

section Frame
variable {s t : State} {l : List Byte} {esc : Bool} {o : Byte}

/-- The falling edge opens reception of an empty buffer (R153, R154). -/
theorem Hearing.start (hl : s.link = .blocked ∨ s.link = .idle) (hm : s.gpioIrqEn = true)
    (hf : s.flags = Flags.clear) (hn : s.rxLen = 0) (hq : s.txPhase ≠ .waitEcho) :
    ∃ t, exec .gpioFall s = .next t ∧ Hearing s [] false t := by
  refine ⟨s.apply .gpio, by simp only [exec, execGpioFall, hm, if_true], ?_⟩
  rw [State.apply_of_edge_idle (State.edge_gpio hl) hq]
  exact ⟨rfl, hf, ⟨hn, Nat.zero_le _, nofun⟩, hq, rfl, rfl, exists_transitions_append ⟨[], by simp⟩⟩

/-- A data octet is appended. -/
theorem Hearing.data (h : Hearing s l esc t) (hv : decVerdict esc o = .data o) (hn : l.length < Config.frameLen) :
    Hearing s (l ++ [o]) false (t.uartReceive o) := by
  have hv' : decVerdict t.flags.esc o = .data o := by rw [h.flags]; exact hv
  have hd : t.flags.dirty = false := by rw [h.flags]
  have hroom : t.rxLen < Config.frameLen := by rw [h.holds.1]; exact hn
  rw [State.uartReceive_of_recv_idle h.link h.quiet,
    State.recvOctet_of_data (s := { t with lastOctet := o }) hv',
    State.append_of_room (s := { t with lastOctet := o }) hd hroom]
  exact ⟨h.link, congrArg (fun f : Flags => { f with esc := false }) h.flags, h.holds.append hn rfl rfl, h.quiet,
    h.station, h.results, exists_transitions_append h.trace⟩

/-- An escape octet is remembered. -/
theorem Hearing.escape (h : Hearing s l false t) : Hearing s l true (t.uartReceive Config.escOctet) := by
  have hv : decVerdict t.flags.esc Config.escOctet = .escape := by rw [h.flags]; rfl
  rw [State.uartReceive_of_recv_idle h.link h.quiet,
    State.recvOctet_of_escape (s := { t with lastOctet := Config.escOctet }) hv]
  exact ⟨h.link, congrArg (fun f : Flags => { f with esc := true }) h.flags, h.holds, h.quiet, h.station, h.results,
    exists_transitions_append h.trace⟩

/-- The end octet closes the reception. -/
theorem Hearing.frameEnd (h : Hearing s l false t) : Received s l (t.uartReceive Config.endOctet) := by
  have hv : decVerdict t.flags.esc Config.endOctet = .frameEnd := by rw [h.flags]; rfl
  obtain ⟨ls, hls⟩ := h.trace
  rw [State.uartReceive_of_recv_idle h.link h.quiet,
    State.recvOctet_of_frameEnd (s := { t with lastOctet := Config.endOctet }) hv]
  refine ⟨rfl, rfl, h.holds, h.station, rfl, h.results, ls, ?_⟩
  show t.trace ++ [.isrEvt] ++ [.transition .blocked] = _
  rw [hls, List.append_assoc, List.append_assoc]
  rfl

/-- An encoded octet is decoded to the octet. -/
theorem Hearing.encOctet (h : Hearing s l false t) (hn : l.length < Config.frameLen) :
    Hearing s (l ++ [o]) false (t.hear (encOctet o)) := by
  unfold Machine.encOctet
  split
  · exact h.escape.data rfl hn
  · rename_i hr
    obtain ⟨hend, hesc⟩ : o ≠ Config.endOctet ∧ o ≠ Config.escOctet := by simpa [isReserved] using hr
    exact h.data (by simp [decVerdict, hend, hesc]) hn

/-- An encoded sequence is decoded to the sequence. -/
theorem Hearing.encOctets (h : Hearing s l false t) {d : List Byte} (hn : l.length + d.length ≤ Config.frameLen) :
    Hearing s (l ++ d) false (t.hear (encOctets d)) := by
  induction d generalizing l t with
  | nil =>
    rw [List.append_nil]
    exact h
  | cons o d ih =>
    have hlen : (o :: d).length = d.length + 1 := rfl
    have ho := ih (h.encOctet (o := o) (by omega)) (by rw [List.length_append, List.length_singleton]; omega)
    rw [List.append_assoc] at ho
    rw [Machine.encOctets, List.flatMap_cons, State.hear_append]
    exact ho

/-- The wire form of `d` leaves the frame and its CRC field in the buffer. -/
theorem Hearing.wireOctets (h : Hearing s [] false t) {d : List Byte} (hn : d.length + 2 ≤ Config.frameLen) :
    Received s (d ++ crcField (crcFrame d)) (t.hear (wireOctets d)) := by
  have hlen : (crcField (crcFrame d)).length = 2 := rfl
  have hd := (h.encOctets (d := d) (by simp; omega)).encOctets (d := crcField (crcFrame d)) (by simp [hlen]; omega)
  rw [Machine.wireOctets, State.hear_append, State.hear_append]
  exact hd.frameEnd

end Frame

/-! ## Delivery -/

/-- `ISR` and then `RECV.COPY` on a received frame that the filter passes deliver it (R191, R193). -/
theorem Received.deliver {s t : State} {d : List Byte} (h : Received s (d ++ crcField (crcFrame d)) t)
    (hmin : Config.ethHdrLen ≤ d.length) {n : Nat} (hn : d.length ≤ n)
    (ha : s.addressPasses (d ++ crcField (crcFrame d)) = true) :
    execAll [.isr, .recvCopy n] t = .next ((t.emit .rxComplete).recvCopied d) ∧ t.frameSize = d.length := by
  have hlen : (d ++ crcField (crcFrame d)).length = d.length + Config.crcLen := List.length_append
  have hdirty : t.flags.dirty = true := by rw [h.flags]
  have hend : t.flags.endSeen = true := by rw [h.flags]
  have hfull : Config.minFrame ≤ t.rxLen := by rw [h.holds.1, hlen]; exact Nat.add_le_add_right hmin _
  have hsize : t.frameSize = d.length := by rw [State.frameSize, h.holds.1, hlen, Nat.add_sub_cancel]
  have haddr : t.addressPasses (d ++ crcField (crcFrame d)) = true := by
    have hst := h.station
    simp only [State.stationBut, State.stationRegs, StationRegs.mk.injEq] at hst
    obtain ⟨hmac, hopt, -⟩ := hst
    rw [State.addressPasses, hmac, hopt]
    exact ha
  have hisr := exec_isr_accepts h.holds hdirty hend (h.holds.1 ▸ hfull) haddr (crcFrame_append_crcField d)
  have hwin : (t.emit .rxComplete).recvWindow = true := by
    simp [State.recvWindow, hdirty, hend, hfull]
  have hholds : BufferHolds (t.emit .rxComplete) (d ++ crcField (crcFrame d)) := h.holds
  have hcopy := exec_recvCopy_copies hholds hwin (n := n) (hsize.trans_le hn)
  have htake : (d ++ crcField (crcFrame d)).take (t.emit .rxComplete).frameSize = d :=
    List.take_left' hsize.symm
  rw [htake] at hcopy
  exact ⟨(execAll_cons hisr).trans (execAll_cons hcopy), hsize⟩

/-- The address filter looks at the frame alone, not at its CRC field (R185). -/
theorem addressPasses_append {s : State} {o : Byte} {d : List Byte} (m : List Byte)
    (hmin : Config.ethHdrLen ≤ (o :: d).length)
    (ha : s.options.promisc = true ∨ o.getLsbD 0 = true ∨ (o :: d).take 6 = s.mac.toList) :
    s.addressPasses (o :: d ++ m) = true := by
  have hle : Config.addrLen ≤ (o :: d).length := le_trans (by decide) hmin
  have htake : (o :: d ++ m).take Config.addrLen = (o :: d).take Config.addrLen := List.take_append_of_le_length hle
  rw [State.addressPasses, addressAccept, htake, Bool.or_eq_true, Bool.or_eq_true, decide_eq_true_eq]
  exact ha

/-- Among `TRANSITION` events there is none for the host. -/
theorem filter_transitions (ls : List LinkState) :
    (ls.map OutEvent.transition).filter (fun v => v = .isrEvt || v = .rxComplete) = [] := by
  simp

/-- Settles O35: the falling edge, the wire form octet by octet, and the delivery. -/
theorem frameOnTheWireIsDelivered : Obligations.FrameOnTheWireIsDelivered := by
  intro s o d len hmin hmax hlen hl hm hf hn hq ha
  obtain ⟨t, ht, hstart⟩ := Hearing.start hl hm hf hn hq
  have hrec := hstart.wireOctets (d := o :: d) (Nat.add_le_add_right hmax 2)
  obtain ⟨hrun, hsize⟩ := hrec.deliver hmin hlen (addressPasses_append _ hmin ha)
  obtain ⟨ls, htrace⟩ := hrec.trace
  refine ⟨((t.hear (wireOctets (o :: d))).emit .rxComplete).recvCopied (o :: d), ?_, ?_, fun a hlt => ?_,
    ⟨ls.map .transition ++ [.isrEvt, .transition .blocked] ++ [.rxComplete], ?_, ?_⟩, hrec.link, rfl, rfl,
    hrec.lastOctet⟩
  · exact (execAll_cons ht).trans ((execAll_map_uartRx _ _ t).trans hrun)
  · show _ ++ [OpResult.size (t.hear (wireOctets (o :: d))).frameSize] = _
    rw [hsize]
    exact congrArg (· ++ _) hrec.results
  · exact (Memory.read_writeAll _ 0 (o :: d) a).trans (if_pos ⟨Nat.zero_le a, by omega⟩)
  · exact (congrArg (· ++ [OutEvent.rxComplete]) htrace).trans (List.append_assoc _ _ _)
  · rw [List.filter_append, List.filter_append, filter_transitions]
    rfl

end Sys2Proof.Machine
end

section
/-! PROOFS. The bit-serial CRC step is the byte-wise one (40_crc.md R121; the constants are log 7). Four rounds
at a time: the highest bit of `0x1021` is bit 12, so what a round adds is first tested, at bit 15, four rounds later. -/

namespace Sys2Proof.Machine

/-- One round of the bit-serial step, bit by bit: bit 15 is added at the places of `0x1021`. -/
theorem getElem_crcBit (crc : Word16) {i : Nat} (hi : i < 16) :
    (crcBit crc)[i] = ((crc <<< 1)[i] ^^ (crc[15] && (0x1021 : Word16)[i])) := by
  rw [crcBit, BitVec.getLsbD_eq_getElem (by decide)]
  cases crc[15] <;> simp

/-- Four rounds move the top nibble out and add its multiple of `0x1021`. -/
theorem crcBit_four_rounds (c : Word16) :
    crcBit (crcBit (crcBit (crcBit c))) =
      c <<< 4 ^^^ (c >>> 12 ^^^ (c >>> 12) <<< 5 ^^^ (c >>> 12) <<< 12) := by
  refine BitVec.eq_of_getLsbD_eq fun i hi => ?_
  interval_cases i <;> simp [getElem_crcBit]

/-- The eight rounds of the bit-serial step are the five lines of the byte-wise step. -/
theorem crcUpdateSerial_eq_crcUpdate : crcUpdateSerial = crcUpdate := by
  funext crc o
  rw [crcUpdateSerial, crcBit_four_rounds, crcBit_four_rounds]
  refine BitVec.eq_of_getLsbD_eq fun i hi => ?_
  simp only [crcUpdate]
  interval_cases i <;> simp
  -- Bit 12 alone remains: the two forms add its terms in different orders.
  grind

/-- Settles O6: R124 for the CRC field, and the sequence `[0x41]` for the other byte order. -/
theorem crcResidueIsZero : Obligations.CrcResidueIsZero :=
  ⟨crcFrame_append_crcField, [0x41], by decide⟩

/-- Settles O7: the rows answer the byte-wise value, which is the bit-serial one. -/
theorem crcOperationsReturnTheirValue : Obligations.CrcOperationsReturnTheirValue := by
  intro s
  rw [crcUpdateSerial_eq_crcUpdate]
  exact ⟨fun _ _ => rfl, fun _ => rfl, fun _ => rfl⟩

end Sys2Proof.Machine
end

section
/-! PROOFS. The encoder and the decoder (41_codec.md R131 to R135) and their laws (R136). -/

namespace Sys2Proof.Machine

/-! ## The encoder -/

theorem isReserved_iff {o : Byte} : isReserved o = true ↔ o = Config.endOctet ∨ o = Config.escOctet := by
  simp [isReserved]

theorem encOctet_eq (o : Byte) : encOctet o = if o = 0xFF ∨ o = 0xFE then [0xFE, o] else [o] := by
  simp only [encOctet, isReserved_iff]
  rfl

theorem encOctet_of_reserved {o : Byte} (h : isReserved o = true) : encOctet o = [Config.escOctet, o] := if_pos h

theorem encOctet_of_not_reserved {o : Byte} (h : ¬ isReserved o = true) : encOctet o = [o] := if_neg h

theorem encOctets_cons (o : Byte) (l : List Byte) : encOctets (o :: l) = encOctet o ++ encOctets l :=
  List.flatMap_cons

theorem encOctets_append (l m : List Byte) : encOctets (l ++ m) = encOctets l ++ encOctets m :=
  List.flatMap_append

/-- Encoding adds one octet for each reserved one (R132). -/
theorem length_encOctets (l : List Byte) :
    (encOctets l).length = l.length + l.countP (fun o => o = 0xFF ∨ o = 0xFE) := by
  induction l with
  | nil => rfl
  | cons o l ih =>
    by_cases h : o = 0xFF ∨ o = 0xFE
    · rw [encOctets_cons, encOctet_eq, if_pos h, List.countP_cons_of_pos (by simpa using h), List.length_append, ih]
      simp only [List.length_cons, List.length_nil]
      omega
    · rw [encOctets_cons, encOctet_eq, if_neg h, List.countP_cons_of_neg (by simpa using h), List.length_append, ih]
      simp only [List.length_cons, List.length_nil]
      omega

/-- The wire form is the encoded frame and CRC field, then the bare end octet (R135). -/
theorem wireOctets_eq (d : List Byte) :
    wireOctets d = encOctets (d ++ crcField (crcFrame d)) ++ [Config.endOctet] := by
  rw [wireOctets, encOctets_append]

/-! ## The decoder -/

/-- An octet is data when it is escaped or not reserved (R133). -/
def IsData (esc : Bool) (o : Byte) : Prop := esc = true ∨ (o ≠ Config.escOctet ∧ o ≠ Config.endOctet)

theorem decVerdict_of_isData {esc : Bool} {o : Byte} (h : IsData esc o) : decVerdict esc o = .data o := by
  obtain rfl | ⟨hesc, hend⟩ := h
  · rfl
  · simp [decVerdict, hesc, hend]

theorem decEsc_of_isData {esc : Bool} {o : Byte} (h : IsData esc o) : decEsc esc o = false := by
  obtain rfl | ⟨hesc, -⟩ := h
  · rfl
  · simp [decEsc, hesc]

/-- The three cases of R133. -/
theorem escape_or_end_or_isData (esc : Bool) (o : Byte) :
    (esc = false ∧ o = Config.escOctet) ∨ (esc = false ∧ o = Config.endOctet) ∨ IsData esc o := by
  cases esc with
  | true => exact .inr (.inr (.inl rfl))
  | false =>
    by_cases hesc : o = Config.escOctet
    · exact .inl ⟨rfl, hesc⟩
    · by_cases hend : o = Config.endOctet
      · exact .inr (.inl ⟨rfl, hend⟩)
      · exact .inr (.inr (.inr ⟨hesc, hend⟩))

theorem decOctetsFrom_escape (w : List Byte) : decOctetsFrom false (Config.escOctet :: w) = decOctetsFrom true w := rfl

theorem decOctetsFrom_end (w : List Byte) : decOctetsFrom false (Config.endOctet :: w) = ([], true, false) := rfl

theorem decOctetsFrom_data {esc : Bool} {o : Byte} (h : IsData esc o) (w : List Byte) :
    decOctetsFrom esc (o :: w) = (o :: (decOctetsFrom false w).1, (decOctetsFrom false w).2) := by
  obtain rfl | ⟨hesc, hend⟩ := h
  · rfl
  · simp [decOctetsFrom, hesc, hend]

/-- One round of the loop of `DECSEQ` (R134): the octets so far, whether the frame has ended, the escape flag. -/
def decStep (a : List Byte × Bool × Bool) (o : Byte) : List Byte × Bool × Bool :=
  if a.2.1 = true then a
  else if a.2.2 = false ∧ o = 0xFE then (a.1, false, true)
  else if a.2.2 = false ∧ o = 0xFF then (a.1, true, false)
  else (a.1 ++ [o], false, false)

theorem decStep_data {esc : Bool} {o : Byte} (h : IsData esc o) (l : List Byte) :
    decStep (l, false, esc) o = (l ++ [o], false, false) := by
  obtain rfl | ⟨hesc, hend⟩ := h
  · rfl
  · rw [decStep, if_neg Bool.false_ne_true, if_neg fun h => hesc h.2, if_neg fun h => hend h.2]

/-- Once the frame has ended the loop takes in nothing. -/
theorem foldl_decStep_ended (l w : List Byte) (esc : Bool) : w.foldl decStep (l, true, esc) = (l, true, esc) := by
  induction w with
  | nil => rfl
  | cons o w ih => exact ih

/-- The loop appends the decoding of the rest to the octets so far. -/
theorem foldl_decStep (l w : List Byte) (esc : Bool) :
    w.foldl decStep (l, false, esc) = (l ++ (decOctetsFrom esc w).1, (decOctetsFrom esc w).2) := by
  induction w generalizing l esc with
  | nil => simp [decOctetsFrom]
  | cons o w ih =>
    obtain ⟨rfl, rfl⟩ | ⟨rfl, rfl⟩ | hd := escape_or_end_or_isData esc o
    · exact ih l true
    · rw [decOctetsFrom_end, List.append_nil]
      exact foldl_decStep_ended l w false
    · rw [List.foldl_cons, decStep_data hd, ih, decOctetsFrom_data hd, List.append_assoc, List.singleton_append]

theorem decOctets_eq_foldl (w : List Byte) : decOctets w = w.foldl decStep ([], false, false) :=
  (foldl_decStep [] w false).symm

/-! ## The round trip -/

/-- What `ENC` makes of an octet is decoded to the octet, with no escape left open. -/
theorem decOctetsFrom_encOctet_append (o : Byte) (w : List Byte) :
    decOctetsFrom false (encOctet o ++ w) = (o :: (decOctetsFrom false w).1, (decOctetsFrom false w).2) := by
  by_cases h : isReserved o = true
  · rw [encOctet_of_reserved h]
    exact decOctetsFrom_data (.inl rfl) w
  · rw [encOctet_of_not_reserved h]
    obtain ⟨hend, hesc⟩ := not_or.1 (mt isReserved_iff.2 h)
    exact decOctetsFrom_data (.inr ⟨hesc, hend⟩) w

theorem decOctets_encOctets_append (l w : List Byte) :
    decOctets (encOctets l ++ w) = (l ++ (decOctets w).1, (decOctets w).2) := by
  induction l with
  | nil => rfl
  | cons o l ih =>
    rw [encOctets_cons, List.append_assoc, decOctets, decOctetsFrom_encOctet_append, ← decOctets, ih,
      List.cons_append]

/-- The round trip (R136 (a)). -/
theorem decOctets_encOctets (l : List Byte) : decOctets (encOctets l) = (l, false, false) := by
  simpa [decOctets, decOctetsFrom] using decOctets_encOctets_append l []

/-- A whole frame is decoded to data and CRC field, ended (R136 (c)). -/
theorem decOctets_wireOctets (d : List Byte) :
    decOctets (wireOctets d) = (d ++ crcField (crcFrame d), true, false) := by
  have hend : decOctets [Config.endOctet] = ([], true, false) := decOctetsFrom_end []
  rw [wireOctets_eq, decOctets_encOctets_append, hend, List.append_nil]

/-! ## Lead octets -/

theorem leadMarks_of_escape (o : Byte) (w : List Byte) :
    leadMarks (Config.escOctet :: o :: w) = true :: false :: leadMarks w := if_pos rfl

theorem leadMarks_of_not_escape {o : Byte} (h : o ≠ Config.escOctet) (w : List Byte) :
    leadMarks (o :: w) = false :: leadMarks w := by
  cases w with
  | nil => simp [leadMarks, h]
  | cons p w => exact if_neg h

/-- Position `k` of a sequence with lead marks `m` comes right after a lead octet `ESC`. -/
def FollowsLead (w : List Byte) (m : List Bool) (k : Nat) : Prop :=
  ∃ j, k = j + 1 ∧ w[j]? = some Config.escOctet ∧ m[j]? = some true

theorem FollowsLead.cons {w : List Byte} {m : List Bool} {k : Nat} (h : FollowsLead w m k) (o : Byte) (b : Bool) :
    FollowsLead (o :: w) (b :: m) (k + 1) := by
  obtain ⟨j, rfl, hw, hm⟩ := h
  exact ⟨j + 1, rfl, hw, hm⟩

/-- A reserved octet of an encoded sequence is a lead octet `ESC` or comes right after one (R136 (b)). -/
theorem lead_or_followsLead_of_reserved {l : List Byte} {k : Nat} {o : Byte} (hk : (encOctets l)[k]? = some o)
    (ho : isReserved o = true) :
    (o = Config.escOctet ∧ (leadMarks (encOctets l))[k]? = some true) ∨
      FollowsLead (encOctets l) (leadMarks (encOctets l)) k := by
  induction l generalizing k with
  | nil => exact absurd hk nofun
  | cons p l ih =>
    by_cases hp : isReserved p = true
    · rw [encOctets_cons, encOctet_of_reserved hp] at hk ⊢
      simp only [List.cons_append, List.nil_append, leadMarks_of_escape] at hk ⊢
      match k with
      | 0 => exact .inl ⟨(Option.some.inj hk).symm, rfl⟩
      | 1 => exact .inr ⟨0, rfl, rfl, rfl⟩
      | k + 2 => exact (ih hk).imp id fun h => (h.cons _ _).cons _ _
    · rw [encOctets_cons, encOctet_of_not_reserved hp, List.singleton_append] at hk ⊢
      rw [leadMarks_of_not_escape fun h => hp (isReserved_iff.2 (.inr h))]
      cases k with
      | zero => exact absurd ((Option.some.inj hk).symm ▸ ho) hp
      | succ k => exact (ih hk).imp id fun h => h.cons _ _

theorem followsLead_of_end {l : List Byte} {k : Nat} (hk : (encOctets l)[k]? = some Config.endOctet) :
    FollowsLead (encOctets l) (leadMarks (encOctets l)) k :=
  (lead_or_followsLead_of_reserved hk rfl).resolve_left fun h => absurd h.1 (by decide)

theorem lead_or_followsLead_of_escape {l : List Byte} {k : Nat} (hk : (encOctets l)[k]? = some Config.escOctet) :
    (leadMarks (encOctets l))[k]? = some true ∨ FollowsLead (encOctets l) (leadMarks (encOctets l)) k :=
  (lead_or_followsLead_of_reserved hk rfl).imp_left And.right

/-- Settles O8: the laws above; that the converse fails is shown by an escape before an octet that is not reserved. -/
theorem escapeRoundTrip : Obligations.EscapeRoundTrip := by
  refine ⟨decOctets_encOctets, fun l k => ⟨followsLead_of_end, lead_or_followsLead_of_escape⟩,
    fun d => ⟨decOctets_wireOctets d, encOctets (d ++ crcField (crcFrame d)), wireOctets_eq d, fun k hk => ?_⟩,
    [0xFE, 0x41], by decide⟩
  obtain ⟨j, hj, -, hlead⟩ := followsLead_of_end hk
  exact ⟨j, hj, hlead⟩

/-! ## The codec rows -/

/-- `DEC` answers its verdict and writes `flags.ESC` (R133). -/
theorem exec_dec (o : Byte) (s : State) :
    exec (.dec o) s = .next { s with
      flags := { s.flags with esc := decEsc s.flags.esc o },
      results := s.results ++ [.decoded (decVerdict s.flags.esc o)] } := rfl

theorem exec_dec_of_isData {s : State} {o : Byte} (h : IsData s.flags.esc o) :
    exec (.dec o) s =
      .next { s with flags := { s.flags with esc := false }, results := s.results ++ [.decoded (.data o)] } := by
  rw [exec_dec, decVerdict_of_isData h, decEsc_of_isData h]

theorem exec_dec_escape {s : State} (h : s.flags.esc = false) :
    exec (.dec Config.escOctet) s =
      .next { s with flags := { s.flags with esc := true }, results := s.results ++ [.decoded .escape] } := by
  rw [exec_dec, h]
  rfl

/-- An unescaped `END` writes the 0 that `flags.ESC` already holds. -/
theorem exec_dec_end {s : State} (h : s.flags.esc = false) :
    exec (.dec Config.endOctet) s = .next { s with results := s.results ++ [.decoded .frameEnd] } := by
  have hflags : { s.flags with esc := decEsc false Config.endOctet } = s.flags := congrArg (Flags.mk _ _) h.symm
  rw [exec_dec, h, hflags]
  rfl

/-- Settles O9: the encoder's value with its test written out, `DECSEQ` as its loop, and one lemma per case of `DEC`. -/
theorem codecOperationsReturnTheirValue : Obligations.CodecOperationsReturnTheirValue := by
  intro s
  refine ⟨fun o => ?enc, fun l => ⟨?encSeq, length_encOctets l⟩, fun w r hr => ?decSeq, fun d => ?wireFrame,
    exec_dec_escape, exec_dec_end, fun _ => exec_dec_of_isData⟩
  case enc =>
    rw [← encOctet_eq]
    rfl
  case encSeq =>
    rw [← funext encOctet_eq]
    rfl
  case decSeq =>
    obtain rfl : r = decOctets w := hr.trans (decOctets_eq_foldl w).symm
    rfl
  case wireFrame =>
    rw [List.append_assoc (encOctets d), ← encOctets_append]
    rfl

end Sys2Proof.Machine
end

section
/-! PROOFS. More edges of the transition table (42_fsm.md R142), and the operations that apply a signal (R141, R143 to
R145). -/

namespace Sys2Proof.Machine

/-! ## The edges by state and signal -/

section Edges
variable {s t : State} {l : LinkState} {sig : Signal} {i : Instr} {o : Byte}

theorem State.edge_init_of_undef (h : s.link = .undef) :
    s.edge .init = some { s.enterBlocked .undef with link := .blocked } := by
  simp only [State.edge, h]

theorem State.edge_xtimer_of_blocked (h : s.link = .blocked) : s.edge .xtimer = some { s with link := .idle } := by
  simp only [State.edge, h]

theorem State.edge_xtimer_of_recv (h : s.link = .recv) :
    s.edge .xtimer = some { s.enterBlocked .recv with link := .blocked } := by
  simp only [State.edge, h]

theorem State.edge_xtimer_of_send (h : s.link = .send) :
    s.edge .xtimer = some { s.enterBlocked .send with link := .blocked } := by
  simp only [State.edge, h]

/-! ## The operations that apply a signal -/

/-- In its state the row of an edge is `Apply` of its signal (R141). -/
theorem exec_row (hr : (l, sig, i) ∈ edgeRows) (hl : s.link = l) : exec i s = .next (s.apply sig) :=
  (exec_edgeRow hr s).trans (congrArg Host.Outcome.next (if_pos hl))

theorem exec_row_of_edge (hr : (l, sig, i) ∈ edgeRows) (hl : s.link = l) (he : s.edge sig = some t) :
    exec i s = .next t.settle := by
  rw [exec_row hr hl, State.apply_of_edge he]

/-- A falling edge that the mask lets through is the signal `GPIO` (R144). -/
theorem exec_gpioFall (h : s.gpioIrqEn = true) : exec .gpioFall s = .next (s.apply .gpio) :=
  congrArg Host.Outcome.next (if_pos h)

theorem exec_gpioFall_masked (h : s.gpioIrqEn = false) : exec .gpioFall s = .next s := by
  simp [exec, execGpioFall, h]

/-- The armed timer expires: it is disarmed, then the signal `XTIMER` is applied (R145, 10_state.md R35). -/
theorem exec_timerFire (h : s.tmrArmed = true) :
    exec .timerFire s = .next (({ s with tmrArmed := false } : State).apply .xtimer) :=
  congrArg Host.Outcome.next (if_pos h)

/-- A timer that is not armed does not fire (log 18). -/
theorem exec_timerFire_unarmed (h : s.tmrArmed = false) : exec .timerFire s = .next s := by
  simp [exec, execTimerFire, h]

theorem exec_timerFire_of_edge (h : s.tmrArmed = true)
    (he : ({ s with tmrArmed := false } : State).edge .xtimer = some t) : exec .timerFire s = .next t.settle := by
  rw [exec_timerFire h, State.apply_of_edge he]

/-- Every form of an octet's arrival is the same operation (R143; log 17). -/
theorem exec_of_arrives (h : Arrives i o) (s : State) : exec i s = .next (s.uartReceive o) := by
  obtain ⟨rfl, rfl⟩ | ⟨rfl, rfl⟩ | rfl | rfl := h <;> rfl

/-- In its state the row of a `UART` edge is the arrival of the octet that `last_octet` holds. -/
theorem exec_uart (hl : s.link = l) (h : Arrives i o ∨ ((l, .uart, i) ∈ edgeRows ∧ s.lastOctet = o)) :
    exec i s = .next (s.uartReceive o) := by
  obtain h | ⟨hr, rfl⟩ := h
  · exact exec_of_arrives h s
  · exact exec_row hr hl

end Edges

end Sys2Proof.Machine
end

section
/-! PROOFS. The FSM over all operations (42_fsm.md R142, R164): each keeps `state` and emits no `TRANSITION`, or
takes one edge and emits one. -/

namespace Sys2Proof.Machine

/-! ## The two lists that grow -/

/-- The lists of a state that only grow (log 3). -/
structure Log where
  trace : List OutEvent
  results : List OpResult

def State.log (s : State) : Log := { trace := s.trace, results := s.results }

/-- The log `w` continues `v`, with the `TRANSITION` events `ls` in between. -/
structure Log.Extends (v : Log) (ls : List LinkState) (w : Log) : Prop where
  results : v.results <+: w.results
  trace : ∃ e, w.trace = v.trace ++ e ∧ transitions e = ls

theorem transitions_append (l m : List OutEvent) : transitions (l ++ m) = transitions l ++ transitions m :=
  List.filterMap_append

namespace Log.Extends
variable {v : Log} {s : State} {ls : List LinkState}

theorem refl (v : Log) : v.Extends [] v := ⟨List.prefix_rfl, [], (List.append_nil _).symm, rfl⟩

theorem answer (h : v.Extends ls s.log) (r : OpResult) : v.Extends ls (s.answer r).log :=
  ⟨h.results.trans (List.prefix_append _ _), h.trace⟩

theorem emit (h : v.Extends ls s.log) (e : OutEvent) : v.Extends (ls ++ transitions [e]) (s.emit e).log := by
  obtain ⟨hr, d, hd, rfl⟩ := h
  refine ⟨hr, d ++ [e], ?_, transitions_append d [e]⟩
  rw [← List.append_assoc, ← hd]
  rfl

theorem echo (h : v.Extends ls s.log) (l : LinkState) : v.Extends ls (s.echo l).log := by
  obtain ⟨_, _, _, _, _, _, hr, he⟩ := s.echo_eq l
  rw [he]
  exact ⟨h.results.trans hr, h.trace⟩

/-- Settling emits one `TRANSITION`, with the state it finds (R164). -/
theorem settle (h : v.Extends [] s.log) : v.Extends [s.link] s.settle.log :=
  (h.emit (.transition s.link)).echo s.link

theorem putOctet (s : State) (o : Byte) : s.log.Extends [] (s.putOctet o).log :=
  (refl s.log).emit (s := { s with txExpect := o, txPhase := .waitEcho }) (.uartTx o)

theorem append (h : v.Extends ls s.log) (o : Byte) : v.Extends ls (s.append o).log := by
  unfold State.append
  split <;> exact h

theorem enterBlocked (s : State) (l : LinkState) : s.log.Extends [] (s.enterBlocked l).log := by
  unfold State.enterBlocked
  split
  · exact (refl s.log).emit .isrEvt
  · exact refl s.log

end Log.Extends

/-! ## Edges -/

/-- The (old state, new state) pairs of the ten edges (R142), the two self-loops among them. -/
def edgeMoves : List (LinkState × LinkState) :=
  [(.undef, .blocked), (.blocked, .idle), (.blocked, .recv), (.idle, .recv), (.idle, .send), (.recv, .recv),
   (.recv, .blocked), (.send, .send), (.send, .blocked)]

section Edges
variable {s t : State} {sig : Signal}

theorem State.enterBlocked_link (s : State) (l : LinkState) : (s.enterBlocked l).link = s.link := by
  unfold State.enterBlocked
  split <;> rfl

theorem State.append_link (s : State) (o : Byte) : (s.append o).link = s.link := by
  unfold State.append
  split <;> rfl

/-- In `RECV` an octet is a self-loop or ends the frame (R155 to R157). -/
theorem State.recvOctet_link (s : State) : s.recvOctet.link = s.link ∨ s.recvOctet.link = .blocked := by
  obtain h | h | h := s.recvOctet_cases <;> rw [h]
  · exact .inl rfl
  · exact .inr rfl
  · exact .inl (s.append_link _)

theorem State.recvOctet_extends (s : State) : s.log.Extends [] s.recvOctet.log := by
  obtain h | h | h := s.recvOctet_cases <;> rw [h]
  · exact .refl s.log
  · exact .enterBlocked _ .recv
  · exact (Log.Extends.refl s.log).append s.lastOctet

/-- An edge writes `state` as the transition table says (R142). -/
theorem State.edge_moves (h : s.edge sig = some t) : (s.link, t.link) ∈ edgeMoves := by
  obtain ⟨hl, -, rfl⟩ | ⟨hl, -, rfl⟩ | ⟨hl | hl, -, rfl⟩ | ⟨hl, -, rfl⟩ | ⟨hl, -, rfl⟩ | ⟨hl, -, rfl⟩ | ⟨hl, -, rfl⟩ |
    ⟨hl, -, rfl⟩ := State.edge_cases h
  -- The one edge whose new state depends on more than the old one.
  pick_goal 6
  · obtain hr | hr := s.recvOctet_link <;> simp [hr, hl, edgeMoves]
  all_goals simp [hl, edgeMoves]

/-- Before it settles, an edge emits no `TRANSITION`. -/
theorem State.edge_extends (h : s.edge sig = some t) : s.log.Extends [] t.log := by
  obtain ⟨-, -, rfl⟩ | ⟨-, -, rfl⟩ | ⟨-, -, rfl⟩ | ⟨-, -, rfl⟩ | ⟨-, -, rfl⟩ | ⟨-, -, rfl⟩ | ⟨-, -, rfl⟩ |
    ⟨-, -, rfl⟩ := State.edge_cases h
  · exact .enterBlocked s .undef
  · exact .refl s.log
  · exact .refl s.log
  · exact .refl s.log
  · exact s.recvOctet_extends
  · exact .enterBlocked s .recv
  · exact .refl s.log
  · exact .enterBlocked s .send

end Edges

/-! ## Operations -/

/-- The FSM was in `origin` with the log `v` and is in `l` with the log `w`: it stayed and announced nothing, or took an
edge and announced the state it came to. -/
inductive FsmStep (origin : LinkState) (v : Log) (l : LinkState) (w : Log) : Prop
  | stays (hw : v.Extends [] w) (hl : l = origin)
  | moves (hw : v.Extends [l] w) (hl : (origin, l) ∈ edgeMoves)

theorem FsmStep.answer {origin l : LinkState} {v : Log} {s : State} (h : FsmStep origin v l s.log) (r : OpResult) :
    FsmStep origin v l (s.answer r).log := by
  obtain ⟨hw, hl⟩ | ⟨hw, hl⟩ := h
  · exact .stays (hw.answer r) hl
  · exact .moves (hw.answer r) hl

theorem State.apply_fsmStep (s : State) (sig : Signal) : FsmStep s.link s.log (s.apply sig).link (s.apply sig).log := by
  obtain ⟨t, ht, h⟩ | ⟨-, h⟩ := s.apply_cases sig <;> rw [h]
  · rw [t.settle_link]
    exact .moves (State.edge_extends ht).settle (State.edge_moves ht)
  · exact .stays (.refl _) rfl

theorem State.txAct_fsmStep (s : State) : FsmStep s.link s.log s.txAct.link s.txAct.log := by
  obtain h | ⟨-, -, h⟩ | ⟨-, h⟩ | ⟨-, h⟩ | ⟨-, h⟩ := s.txAct_cases <;> rw [h]
  · exact .stays (.refl _) rfl
  · exact .stays (.refl _) rfl
  · exact s.apply_fsmStep .send
  · exact .stays (.putOctet s s.txNextOctet) rfl
  · exact (s.apply_fsmStep .endTx).answer s.txDone

/-- `INIT` takes the edge out of `UNDEF`, whatever `state` was (45_config.md R231). -/
theorem State.apply_init_fsm {s : State} (h : s.link = .undef) :
    (s.apply .init).link = .blocked ∧ s.log.Extends [(s.apply .init).link] (s.apply .init).log := by
  have hl : (s.apply .init).link = .blocked := by
    rw [State.apply_of_edge (State.edge_init_of_undef h), State.settle_link]
  obtain ⟨-, hs⟩ | ⟨hw, -⟩ := s.apply_fsmStep .init
  · exact absurd (hs.symm.trans hl) (by rw [h]; decide)
  · exact ⟨hl, hw⟩

/-- What an operation does to the FSM: one step of it, or the `INIT` edge to `BLOCKED`. -/
theorem exec_fsmStep {i : Instr} {s t : State} (h : exec i s = .next t) :
    FsmStep s.link s.log t.link t.log ∨ (i = .init ∧ t.link = .blocked ∧ s.log.Extends [t.link] t.log) := by
  have same : s.log.Extends [] s.log := .refl s.log
  cases exec_effect h with
  | init hi =>
    obtain ⟨hl, hw⟩ := State.apply_init_fsm (s := { s.clearBuffer with link := .undef }) rfl
    exact .inr ⟨hi, hl, hw.answer (.status 0)⟩
  | octet o => exact .inl (State.apply_fsmStep { s with lastOctet := o } .uart)
  | edge _ sig => exact .inl (s.apply_fsmStep sig)
  | apply sig => exact .inl ((s.apply_fsmStep sig).answer _)
  | gpio => exact .inl (s.apply_fsmStep .gpio)
  | timer => exact .inl (State.apply_fsmStep { s with tmrArmed := false } .xtimer)
  | act => exact .inl s.txAct_fsmStep
  | value r => exact .inl (.stays (same.answer r) rfl)
  | dec => exact .inl (.stays (same.answer _) rfl)
  | setPromisc => exact .inl (.stays (same.answer _) rfl)
  | discard => exact .inl (.stays (same.answer _) rfl)
  | tooSmall => exact .inl (.stays (same.answer _) rfl)
  | copied => exact .inl (.stays (same.answer _) rfl)
  | draw => exact .inl (.stays (same.answer _) rfl)
  | complete => exact .inl (.stays (same.emit .rxComplete) rfl)
  | enterBlockedFromRecv => exact .inl (.stays (same.emit .isrEvt) rfl)
  | enterBlocked l => exact .inl (.stays (.enterBlocked s l) (s.enterBlocked_link l))
  | startData => exact .inl (.stays (.putOctet _ _) rfl)
  | startOct => exact .inl (.stays (.putOctet _ _) rfl)
  | echo l => exact .inl (.stays (same.echo l) (s.echo_link l))
  | nothing | clear | enterRecv | enterSend | startSend | startFrame => exact .inl (.stays same rfl)

/-- Settles O28: `TRANSITION` is emitted with each step of the FSM and by nothing else. -/
theorem oneTransitionPerOperation : Obligations.OneTransitionPerOperation := by
  intro i s t h
  obtain (⟨⟨hr, e, ht, he⟩, hl⟩ | ⟨⟨hr, e, ht, he⟩, -⟩) | ⟨-, -, hr, e, ht, he⟩ := exec_fsmStep h
  · exact ⟨hr, e, ht, .inl ⟨he, hl⟩⟩
  · exact ⟨hr, e, ht, .inr he⟩
  · exact ⟨hr, e, ht, .inr he⟩

/-- Settles O29: a step of the FSM is an edge, and those that change `state` are the seven pairs. -/
theorem stateMovesAlongTheTable : Obligations.StateMovesAlongTheTable := by
  intro i s t h hne
  obtain (⟨-, hl⟩ | ⟨-, hl⟩) | ⟨hi, hl, -⟩ := exec_fsmStep h
  · exact absurd hl hne
  · have hself : ∀ l, (s.link, t.link) ≠ (l, l) := fun l hp =>
      hne ((congrArg Prod.snd hp).trans (congrArg Prod.fst hp).symm)
    exact .inl (by simpa [edgeMoves, hself] using hl)
  · exact .inr ⟨hi, hl⟩

end Sys2Proof.Machine
end

section
/-! PROOFS. The entries of the FSM, one per edge or source (42_fsm.md R143 to R164). -/

namespace Sys2Proof.Machine

/-! ## Back-off and the entry actions (R149 to R153, R160) -/

/-- Settles O10: a draw lies in its interval, which is not empty since `T` is at least 1. -/
theorem backoffDrawsInTheirIntervals : Obligations.BackoffDrawsInTheirIntervals := by
  intro s hT
  obtain ⟨hlo, hhi⟩ := s.backoffSend_bounds hT
  obtain ⟨hlo', hhi'⟩ := s.backoffShort_bounds hT
  exact ⟨⟨s.backoffSend, hlo, hhi, rfl⟩, s.backoffShort, hlo', hhi', rfl⟩

/-- The back-off by the state it arrives from (R151, R152). -/
theorem State.backoff_bounds (s : State) (origin : LinkState) (h : 1 ≤ s.timeoutTicks) :
    if origin = .send then s.timeoutTicks ≤ s.backoff origin ∧ s.backoff origin < 2 * s.timeoutTicks
    else s.timeoutTicks / 10 ≤ s.backoff origin ∧ s.backoff origin < s.timeoutTicks := by
  unfold State.backoff
  split
  · exact s.backoffSend_bounds h
  · exact s.backoffShort_bounds h

/-- `ENTER.BLOCKED` as a whole next state: `flags` and the trace are written when arriving from `RECV` (R149, R150). -/
theorem State.enterBlocked_eq (s : State) (origin : LinkState) :
    s.enterBlocked origin =
      { s with flags := if origin = .recv then { s.flags with dirty := true, esc := false } else s.flags,
               trace := if origin = .recv then s.trace ++ [.isrEvt] else s.trace,
               gpioIrqEn := true, tmrArmed := true, tmrDur := s.backoff origin, freeCtr := s.freeCtr + 1 } := by
  cases origin <;> rfl

/-- Settles O26: the back-off of the origin lies in its interval; the three other rows compute. -/
theorem entryActions : Obligations.EntryActions := fun s hT =>
  ⟨fun origin => ⟨s.backoff origin, s.backoff_bounds origin hT, congrArg Host.Outcome.next (s.enterBlocked_eq origin)⟩,
    rfl, rfl, rfl⟩

/-! ## Edges without an octet -/

/-- Settles O11: the edge out of `UNDEF` arms the short back-off. -/
theorem initEdgeEntersBlocked : Obligations.InitEdgeEntersBlocked := by
  intro s hl hT
  obtain ⟨hlo, hhi⟩ := s.backoffShort_bounds hT
  exact ⟨s.backoffShort, hlo, hhi, exec_row_of_edge (by simp [edgeRows]) hl (State.edge_init_of_undef hl)⟩

/-- Settles O12: by the row and by the expiry. -/
theorem backoffExpiryEntersIdle : Obligations.BackoffExpiryEntersIdle := fun _ hl =>
  ⟨exec_row_of_edge (by simp [edgeRows]) hl (State.edge_xtimer_of_blocked hl),
    fun ha => exec_timerFire_of_edge ha (State.edge_xtimer_of_blocked hl)⟩

/-- Settles O13: the two rows and the falling edge all apply `GPIO` in a state that takes it. -/
theorem fallingEdgeEntersReception : Obligations.FallingEdgeEntersReception := by
  intro s i h
  obtain ⟨rfl, hl⟩ | ⟨rfl, hl⟩ | ⟨rfl, hm, hl⟩ := h
  · exact exec_row_of_edge (by simp [edgeRows]) hl (State.edge_gpio (.inl hl))
  · exact exec_row_of_edge (by simp [edgeRows]) hl (State.edge_gpio (.inr hl))
  · rw [exec_gpioFall hm, State.apply_of_edge (State.edge_gpio hl)]
    rfl

/-- Settles O14: a source that is not enabled is the identity, and the pairs named are none of the ten. -/
theorem sourcesWithoutAnEdge : Obligations.SourcesWithoutAnEdge := by
  refine fun s => ⟨fun h => ?fall, fun ha hl => ?expiry, fun ha => ?unarmed⟩
  case fall =>
    cases hm : s.gpioIrqEn with
    | false => exact exec_gpioFall_masked hm
    | true =>
      have hpair : (s.link, Signal.gpio) ∉ edgePairs := by
        obtain h | h | h | h := h
        · exact absurd (hm.symm.trans h) (by decide)
        all_goals simp [edgePairs, edgeRows, h]
      rw [exec_gpioFall hm, State.apply_of_notMem hpair]
  case expiry =>
    have hpair : (s.link, Signal.xtimer) ∉ edgePairs := by
      obtain hl | hl := hl <;> simp [edgePairs, edgeRows, hl]
    rw [exec_timerFire ha, State.apply_of_notMem (s := { s with tmrArmed := false }) hpair]
  case unarmed => exact exec_timerFire_unarmed ha

/-- Settles O18: the row and the expiry take the edge to `BLOCKED` with the short back-off. -/
theorem timeoutInReception : Obligations.TimeoutInReception := by
  intro s i hl hT h
  obtain ⟨hlo, hhi⟩ := s.backoffShort_bounds hT
  refine ⟨s.backoffShort, hlo, hhi, ?_⟩
  obtain rfl | ⟨rfl, ha⟩ := h
  · exact exec_row_of_edge (by simp [edgeRows]) hl (State.edge_xtimer_of_recv hl)
  · exact exec_timerFire_of_edge ha (State.edge_xtimer_of_recv hl)

/-- Settles O19. -/
theorem sendRequestEntersSend : Obligations.SendRequestEntersSend := fun _ hl =>
  exec_row_of_edge (by simp [edgeRows]) hl (State.edge_send_of_idle hl)

/-- Settles O21: the two rows and the expiry take an edge to `BLOCKED` with the long back-off. -/
theorem sendIsLeftWithTheLongBackoff : Obligations.SendIsLeftWithTheLongBackoff := by
  intro s i hl hT h
  obtain ⟨hlo, hhi⟩ := s.backoffSend_bounds hT
  refine ⟨s.backoffSend, hlo, hhi, ?_⟩
  obtain rfl | rfl | ⟨rfl, ha⟩ := h
  · exact exec_row_of_edge (by simp [edgeRows]) hl (State.edge_xtimer_of_send hl)
  · exact exec_row_of_edge (by simp [edgeRows]) hl (State.edge_endTx_of_send hl)
  · exact exec_timerFire_of_edge ha (State.edge_xtimer_of_send hl)

/-! ## An octet in each state (R143) -/

/-- Settles O22: none of the three states has a `UART` edge. -/
theorem octetOutsideAFrameIsDropped : Obligations.OctetOutsideAFrameIsDropped := by
  intro s i o hl h
  have hpair : (s.link, Signal.uart) ∉ edgePairs := by
    obtain hl | hl | hl := hl <;> simp [edgePairs, edgeRows, hl]
  rw [exec_of_arrives h, State.uartReceive, State.apply_of_notMem (s := { s with lastOctet := o }) hpair]

/-- Settles O20: the self-loop of `SEND`. -/
theorem octetInSendIsNotDecoded : Obligations.OctetInSendIsNotDecoded := by
  intro s i o hl h
  rw [exec_uart hl (h.imp_right (And.imp_left fun hi => by simp [edgeRows, hi])), State.uartReceive_of_send hl]
  rfl

/-- In `RECV` an arrival, or one of the three rows of edge 0x34 with the octet in `last_octet`, decodes the octet. -/
theorem exec_recvUart {s : State} {i j : Instr} {o : Byte} (hl : s.link = .recv)
    (h : Arrives i o ∨ (i = j ∧ s.lastOctet = o)) (hj : (.recv, .uart, j) ∈ edgeRows) :
    exec i s = .next ({ s with lastOctet := o } : State).recvOctet.settle := by
  rw [exec_uart hl (h.imp_right (And.imp_left fun hi => hi ▸ hj)), State.uartReceive_of_recv hl]

/-- Settles O15: the verdict on an unescaped `ESC`. -/
theorem escapeOctetInReception : Obligations.EscapeOctetInReception := by
  intro s i hl he h
  have hv : decVerdict s.flags.esc 0xFE = .escape := by rw [he]; rfl
  rw [exec_recvUart hl h (by simp [edgeRows]), State.recvOctet_of_escape (s := { s with lastOctet := 0xFE }) hv]
  rfl

/-- Settles O16: the verdict on an unescaped `END`. -/
theorem endOctetInReception : Obligations.EndOctetInReception := by
  intro s i hl he hT h
  have hv : decVerdict s.flags.esc 0xFF = .frameEnd := by rw [he]; rfl
  obtain ⟨hlo, hhi⟩ := s.backoffShort_bounds hT
  refine ⟨s.backoffShort, hlo, hhi, ?_⟩
  rw [exec_recvUart hl h (by simp [edgeRows]), State.recvOctet_of_frameEnd (s := { s with lastOctet := 0xFF }) hv]
  rfl

theorem State.append_of_no_room {s : State} (h : s.flags.dirty = true ∨ Config.frameLen ≤ s.rxLen) (o : Byte) :
    s.append o = { s with flags := { s.flags with esc := false } } := by
  unfold State.append
  rw [if_neg]
  obtain h | h := h <;> simp [h]

/-- A data octet is written at the end of a clean buffer with room, and `flags.ESC` is cleared in any case (R157). -/
theorem State.append_spec (s : State) (o : Byte) :
    ∃ (m : Memory) (n : Nat),
      s.append o = { s with flags := { s.flags with esc := false }, rxBuf := m, rxLen := n } ∧
      (s.flags.dirty = false ∧ s.rxLen < Config.frameLen →
        n = s.rxLen + 1 ∧ m.read s.rxLen = some o ∧ ∀ a, a ≠ s.rxLen → m.read a = s.rxBuf.read a) ∧
      (s.flags.dirty = true ∨ Config.frameLen ≤ s.rxLen → n = s.rxLen ∧ m = s.rxBuf) := by
  by_cases h : s.flags.dirty = false ∧ s.rxLen < Config.frameLen
  · refine ⟨_, _, State.append_of_room h.1 h.2, fun _ => ⟨rfl, ?_, ?_⟩, fun hf => ?_⟩
    · exact Memory.read_write_same _ _ _
    · exact fun a ha => Memory.read_write_other _ _ ha
    · obtain hf | hf := hf
      · exact absurd (h.1.symm.trans hf) (by decide)
      · exact absurd hf (Nat.not_le_of_lt h.2)
  · have hf : s.flags.dirty = true ∨ Config.frameLen ≤ s.rxLen := by simpa [imp_iff_not_or] using h
    exact ⟨_, _, State.append_of_no_room hf o, fun hr => absurd hr h, fun _ => ⟨rfl, rfl⟩⟩

/-- Settles O17: the verdict on any other octet is to append it. -/
theorem dataOctetInReception : Obligations.DataOctetInReception := by
  intro s i o hl hd h
  have hv : decVerdict s.flags.esc o = .data o := decVerdict_of_isData hd
  obtain ⟨m, n, happ, hroom, hfull⟩ := State.append_spec { s with lastOctet := o } o
  refine ⟨m, n, ?_, hroom, hfull⟩
  rw [exec_recvUart hl h (by simp [edgeRows]), State.recvOctet_of_data (s := { s with lastOctet := o }) hv, happ]
  rfl

/-! ## `APPLY` and settling -/

/-- A code that is no signal is refused (30_encoding.md R98). -/
theorem exec_apply_of_no_signal {c : BitVec 4} (h : ∀ sig : Signal, sig.code ≠ c) (s : State) :
    exec (.apply c) s = .next (s.answer (.link s.link)) := by
  have hc : Signal.ofCode c = none :=
    Option.eq_none_iff_forall_ne_some.2 fun sig hsig => h sig (Signal.ofCode_eq_some hsig).symm
  simp only [exec, execApply, hc]

/-- Settles O24: the row and `APPLY` both apply the edge's signal. -/
theorem applyRunsTheEdge : Obligations.ApplyRunsTheEdge :=
  ⟨fun s ⟨_, sig, _⟩ hr hl => ⟨s.apply sig, exec_row hr hl, exec_apply_code s sig⟩,
    fun s _ hc => exec_apply_of_no_signal hc s⟩

/-- Settles O27: settling is the reaction to the `TRANSITION` it emits, and that is nothing while no echo is awaited. -/
theorem settlingEmitsOneTransition : Obligations.SettlingEmitsOneTransition :=
  fun _ => ⟨State.settle_idle, rfl⟩

end Sys2Proof.Machine
end

section
/-! PROOFS. What `CLEARRX`, `ISR` and `RECV` do, one lemma per outcome (43_receive.md R181 to R193). -/

namespace Sys2Proof.Machine

/-! ## `CLEARRX` and `ISR` -/

/-- Settles O30: the flags that `CLEARRX` writes are all 0. -/
theorem clearRxClearsLengthAndFlags : Obligations.ClearRxClearsLengthAndFlags := fun _ => rfl

/-- A spurious `ISR` does nothing (R182). -/
theorem exec_isr_of_clean {s : State} (hd : s.flags.dirty = false) : exec .isr s = .next s := by
  simp only [exec, execIsr, hd, Bool.not_false, if_true]

/-- `ISR` drops a reception that was cut off or is too short (R183, R184). -/
theorem exec_isr_of_unfinished {s : State} (hd : s.flags.dirty = true)
    (h : s.flags.endSeen = false ∨ s.rxLen < Config.minFrame) : exec .isr s = .next s.clearBuffer := by
  simp only [exec, execIsr, hd]
  obtain he | hn := h
  · simp only [he, Bool.not_true, Bool.not_false, Bool.false_eq_true, if_false, if_true]
  · simp only [if_pos hn, Bool.not_true, Bool.false_eq_true, if_false, ite_self]

/-- A complete reception goes to the address filter and the CRC check (R185, R186). -/
theorem exec_isr_of_complete {s : State} {l : List Byte} (hd : s.flags.dirty = true) (he : s.flags.endSeen = true)
    (hn : Config.minFrame ≤ s.rxLen) (hb : BufferHolds s l) : exec .isr s = .next (s.validate l) := by
  have hread : s.readRxFrom 0 s.rxLen = .ok l := by
    rw [hb.1, hb.readRxFrom le_rfl, List.take_length]
  simp only [exec, execIsr, hd, he, if_neg (Nat.not_lt.2 hn), hread, Bool.not_true, Bool.false_eq_true, if_false]

/-- The address filter (R182, R185): promiscuous mode, the multicast bit, or the station's own address. -/
theorem State.addressPasses_cons_iff {s : State} {o : Byte} {l : List Byte} :
    s.addressPasses (o :: l) = true ↔
      s.options.promisc = true ∨ o.getLsbD 0 = true ∨ (o :: l).take Config.addrLen = s.mac.toList := by
  rw [State.addressPasses, addressAccept, Bool.or_eq_true, Bool.or_eq_true, decide_eq_true_eq, List.getD_cons_zero]

/-- A frame that the filter or the CRC check rejects is dropped silently (R185, R186). -/
theorem State.validate_of_rejected {s : State} {l : List Byte} (h : s.addressPasses l = false ∨ crcFrame l ≠ 0) :
    s.validate l = s.clearBuffer := by
  unfold State.validate
  obtain ha | hc := h
  · simp only [ha, Bool.not_false, if_true]
  · have hcheck : crcCheck l = false := decide_eq_false hc
    simp only [hcheck, Bool.not_false, if_true, ite_self]

/-- Settles O31: the two early checks of `ISR`, then the filter and the CRC check on the octets of the buffer. -/
theorem isrValidatesOrDrops : Obligations.IsrValidatesOrDrops := by
  rintro s _ rfl
  refine ⟨exec_isr_of_clean, fun hd he => exec_isr_of_unfinished hd (.inl he),
    fun hd _ hn => exec_isr_of_unfinished hd (.inr hn),
    fun o l hd he hn hb => ⟨fun hp hm ha => ?filtered, fun hc => ?badCrc, fun ha hc => ?complete⟩⟩
  case filtered =>
    have hf : s.addressPasses (o :: l) = false := by
      rw [← Bool.not_eq_true, State.addressPasses_cons_iff, hp, hm]
      rintro (h | h | h)
      · cases h
      · cases h
      · exact ha h
    rw [exec_isr_of_complete hd he hn hb, State.validate_of_rejected (.inl hf)]
    rfl
  case badCrc =>
    rw [exec_isr_of_complete hd he hn hb, State.validate_of_rejected (.inr hc)]
    rfl
  case complete =>
    exact exec_isr_accepts hb hd he (hb.1 ▸ hn) (State.addressPasses_cons_iff.2 ha) hc

/-! ## `RECV` -/

/-- The window of `RECV` (R187; log 11). -/
theorem State.recvWindow_iff {s : State} :
    s.recvWindow = true ↔ s.flags.dirty = true ∧ s.flags.endSeen = true ∧ Config.minFrame ≤ s.rxLen := by
  rw [State.recvWindow, Bool.and_eq_true, Bool.and_eq_true, decide_eq_true_eq, and_assoc]

section Window
variable {s : State} (hw : s.recvWindow = true)
include hw

/-- The size query (R188). -/
theorem exec_recvSize_of_window : exec .recvSize s = .next s.recvQuery := if_pos hw

/-- The drop (R189). -/
theorem exec_recvDrop_of_window (n : Nat) : exec (.recvDrop n) s = .next s.recvDiscard := if_pos hw

/-- A buffer too small for the frame (R190). -/
theorem exec_recvShort_of_window {n : Nat} (hn : n < s.frameSize) :
    exec (.recvShort n) s = .next s.recvTooSmall :=
  (if_pos hw).trans (if_pos hn)

end Window

/-- What `RECV.COPY` leaves in the caller's buffer (R191): the frame without its CRC field, and above it what was there
before. -/
theorem Memory.read_writeAll_take (m : Memory) (l : List Byte) {n : Nat} (hn : n ≤ l.length) (a : Nat) :
    (m.writeAll 0 (l.take n)).read a = if a < n then l[a]? else m.read a := by
  rw [Memory.read_writeAll, List.length_take_of_le hn, Nat.zero_add, Nat.sub_zero]
  split
  · next h => rw [if_pos h.2, List.getElem?_take_of_lt h.2]
  · next h => rw [if_neg fun ha => h ⟨Nat.zero_le a, ha⟩]

/-- Settles O33: the octets below `frameSize` are read and written to the caller's buffer from index 0. -/
theorem recvCopyDeliversTheFrame : Obligations.RecvCopyDeliversTheFrame := by
  intro s len l hd he hn hb hlen
  have hw : s.recvWindow = true := State.recvWindow_iff.2 ⟨hd, he, hn⟩
  have hsize : s.frameSize ≤ l.length := hb.1 ▸ Nat.sub_le s.rxLen Config.crcLen
  have hread := s.callerBuf.read_writeAll_take l hsize
  exact ⟨_, exec_recvCopy_copies hb hw hlen, fun a ha => (hread a).trans (if_pos ha),
    fun a ha => (hread a).trans (if_neg (Nat.not_lt.2 ha))⟩

/-- Settles O32: inside the window each form has one outcome. -/
theorem recvSizeDropShort : Obligations.RecvSizeDropShort := by
  intro s len hd he hn
  have hw : s.recvWindow = true := State.recvWindow_iff.2 ⟨hd, he, hn⟩
  exact ⟨exec_recvSize_of_window hw, fun _ => exec_recvDrop_of_window hw len, exec_recvShort_of_window hw⟩

/-- Settles O34: each form tests the window first. -/
theorem recvOutsideItsWindowIsRefused : Obligations.RecvOutsideItsWindowIsRefused := by
  intro s len h
  have hw : ¬s.recvWindow = true := by
    rw [State.recvWindow_iff]
    rintro ⟨hd, he, hn⟩
    rw [hd, he] at h
    obtain h | h | h := h
    · cases h
    · cases h
    · exact Nat.not_lt.2 hn h
  exact ⟨if_neg hw, if_neg hw, if_neg hw, if_neg hw⟩

end Sys2Proof.Machine
end

section
/-! PROOFS. The send path operation by operation (44_send.md): the starts (R203 to R207), the steps by phase (R206, R208,
R213), the octet that `TX_PUT` writes (R206, R211) and the echo reaction (R202, R212 to R215). -/

namespace Sys2Proof.Machine

/-! ## The starts -/

/-- While the sequencer is off, a procedure's start is its next state (log 12). -/
theorem State.startTx_of_off {s : State} (h : s.txPhase = .off) (t : State) : s.startTx t = .next t := if_pos h

/-- Settles O36: the start of an attempt writes the registers of R207. -/
theorem sendStartsTheSequencer : Obligations.SendStartsTheSequencer :=
  fun _ _ h => ⟨State.startTx_of_off h _, State.startTx_of_off h _⟩

/-- The escape octet before a reserved octet, in the words of R91. -/
theorem escape_if_reserved (c : Byte) :
    (if isReserved c then Config.escOctet else c) = if c = 0xFF ∨ c = 0xFE then 0xFE else c := by
  simp only [isReserved_iff]
  rfl

/-- Settles O37: both write an octet at once, `TXDATA` the escape octet before a reserved one. -/
theorem verifiedWritesStart : Obligations.VerifiedWritesStart :=
  fun _ c h => ⟨State.startTx_of_off h _, _, escape_if_reserved c, State.startTx_of_off h _⟩

/-! ## The steps by phase -/

section Steps
variable {s : State}

/-- The phases without an enabled step (log 18). -/
theorem State.txAct_of_not_enabled (h : s.txPhase = .off ∨ s.txPhase = .waitEcho ∨
    (s.txPhase = .waitIdle ∧ s.link ≠ .idle)) : s.txAct = s := by
  obtain hp | hp | ⟨hp, hl⟩ := h
  · simp only [State.txAct, hp]
  · simp only [State.txAct, hp]
  · simp only [State.txAct, hp, if_neg hl]

/-- Outside `IDLE` the request is refused; `state` alone decides where the sequencer goes (R208). -/
theorem State.txRequest_of_not_idle (hl : s.link ≠ .idle) :
    s.txRequest = { s with txPhase := if s.link = .send then .put else .waitIdle } := by
  have ha : s.apply .send = s := State.apply_of_notMem (by simp [edgePairs, edgeRows, hl])
  rw [State.txRequest, ha]

/-- After the last octet a sequencer still in `SEND` leaves it by the edge `SEND`+`END` (R213). -/
theorem State.txAct_finish_of_send (hp : s.txPhase = .finish) (hl : s.link = .send) :
    s.txAct =
      (({ s.enterBlocked .send with link := .blocked } : State).emit (.transition .blocked)).txReturn s.txDone := by
  have hne : s.txPhase ≠ .waitEcho := by simp [hp]
  rw [State.txAct_of_finish hp, State.apply_of_edge_idle (State.edge_endTx_of_send hl) hne]

/-- After the last octet the signal `END` is refused where `SEND` has been left already (R213). -/
theorem State.txAct_finish_of_not_send (hp : s.txPhase = .finish) (hl : s.link ≠ .send) :
    s.txAct = s.txReturn s.txDone := by
  have ha : s.apply .endTx = s := State.apply_of_notMem (by simp [edgePairs, edgeRows, hl])
  rw [State.txAct_of_finish hp, ha]

/-- `SEND` returns its payload's length, `TXFRAME` the verdict `OK` (R205, R213). -/
theorem State.txDone_eq {r : OpResult}
    (h : (s.txTask = .send ∧ r = .sent s.txPayload.length) ∨ (s.txTask = .frame ∧ r = .verdict .ok)) :
    s.txDone = r := by
  obtain ⟨ht, rfl⟩ | ⟨ht, rfl⟩ := h <;> simp only [State.txDone, ht]

theorem exec_txStep {t : State} (h : s.txAct = t) : exec .txStep s = .next t := congrArg Host.Outcome.next h

end Steps

/-- Settles O39: one equation per phase, and in `TX_REQUEST` and `TX_FINISH` per `state`. -/
theorem sequencerSteps : Obligations.SequencerSteps := by
  refine fun s => ⟨fun h => exec_txStep (State.txAct_of_not_enabled h),
    fun hp hl => exec_txStep (State.txAct_of_waitIdle hp hl),
    fun hp hl => exec_txStep ?accepted, fun hp hi hl => exec_txStep ?refused,
    fun hp => exec_txStep (State.txAct_of_put hp), fun hp hl => exec_txStep ?sending,
    fun r hr hp => ⟨fun hl => exec_txStep ?outside, fun hl hT => ?leaves⟩⟩
  case accepted => rw [State.txAct_of_request hp, State.txRequest_of_idle hl (by simp [hp])]; rfl
  case refused => rw [State.txAct_of_request hp, State.txRequest_of_not_idle hi, if_neg hl]
  case sending => rw [State.txAct_of_request hp, State.txRequest_of_not_idle (by simp [hl]), if_pos hl]
  case outside => rw [State.txAct_finish_of_not_send hp hl, State.txDone_eq hr]; rfl
  case leaves =>
    obtain ⟨hlo, hhi⟩ := s.backoffSend_bounds hT
    refine ⟨s.backoffSend, hlo, hhi, exec_txStep ?_⟩
    rw [State.txAct_finish_of_send hp hl, State.txDone_eq hr]
    rfl

/-! ## The octet of `TX_PUT` -/

section NextOctet
variable {s : State}

/-- The procedures that send a whole frame (R205, R207). -/
def State.SendsFrame (s : State) : Prop := s.txTask = .send ∨ s.txTask = .frame

/-- A procedure sends a frame or one octet (R203, R204). -/
theorem State.txTask_cases (s : State) :
    s.SendsFrame ∨ (∃ c, s.txTask = .data c) ∨ ∃ c, s.txTask = .oct c := by
  cases h : s.txTask with
  | send => exact .inl (.inl h)
  | frame => exact .inl (.inr h)
  | data c => exact .inr (.inl ⟨c, rfl⟩)
  | oct c => exact .inr (.inr ⟨c, rfl⟩)

/-- The element of a frame (R206). -/
theorem State.SendsFrame.txElem (h : s.SendsFrame) : s.txElem = frameElem s.txPayload s.txCrc s.txPos := by
  obtain h | h := h <;> simp only [State.txElem, h]

/-- Of a frame all elements but the bare end octet are escapable (R206). -/
theorem State.SendsFrame.txEscapable (h : s.SendsFrame) :
    s.txEscapable = decide (s.txPos ≤ s.txPayload.length + 1) := by
  obtain h | h := h <;> simp only [State.txEscapable, h]

/-- Before an escapable element that is reserved the escape octet is written, once (R211). -/
theorem State.txNextOctet_of_escapable (h : s.txEscapable = true) :
    s.txNextOctet = if (s.txElem = 0xFF ∨ s.txElem = 0xFE) ∧ s.txSub = false then 0xFE else s.txElem := by
  have hc : (s.txNeedsEsc && !s.txSub) = true ↔ (s.txElem = 0xFF ∨ s.txElem = 0xFE) ∧ s.txSub = false := by
    simp only [State.txNeedsEsc, h, Bool.true_and, Bool.and_eq_true, Bool.not_eq_true', isReserved_iff]
    rfl
  simp only [State.txNextOctet, hc]
  rfl

/-- An octet that needs no escape is written as it is. -/
theorem State.txNextOctet_of_bare (h : s.txEscapable = false) : s.txNextOctet = s.txElem := by
  simp [State.txNextOctet, State.txNeedsEsc, h]

end NextOctet

/-- Settles O40: by whether the element is escapable, and which element the position names. -/
theorem nextOctetOfAFrame : Obligations.NextOctetOfAFrame := by
  refine fun s => ⟨fun c ht => ?data, fun c ht => ?oct, fun ht => ?frame⟩
  case data =>
    have hesc : s.txEscapable = true := by simp only [State.txEscapable, ht]
    have hel : s.txElem = c := by simp only [State.txElem, ht]
    rw [State.txNextOctet_of_escapable hesc, hel]
    exact ⟨fun hs => by simp [hs], fun hs => by simp [hs]⟩
  case oct =>
    have hesc : s.txEscapable = false := by simp only [State.txEscapable, ht]
    rw [State.txNextOctet_of_bare hesc]
    simp only [State.txElem, ht]
  case frame =>
    have hf : s.SendsFrame := ht
    have escaped {o : Byte} (hk : s.txPos ≤ s.txPayload.length + 1)
        (ho : frameElem s.txPayload s.txCrc s.txPos = o) :
        s.txNextOctet = if (o = 0xFF ∨ o = 0xFE) ∧ s.txSub = false then 0xFE else o := by
      rw [State.txNextOctet_of_escapable (by simp [hf.txEscapable, hk]), hf.txElem, ho]
    refine ⟨fun o ho => ?_, fun hk o ho => ?_, fun hk o ho => ?_, fun hk => ?_⟩
    · obtain ⟨hlt, rfl⟩ := List.getElem?_eq_some_iff.1 ho
      exact escaped (by omega) (by simp [frameElem, hlt])
    · exact escaped (by omega) (by simp [frameElem, hk, ho, crcHigh])
    · exact escaped (by omega) (by simp [frameElem, hk, ho, crcLow])
    · rw [State.txNextOctet_of_bare (by simp [hf.txEscapable, hk]), hf.txElem]
      simp [frameElem, hk, Config.endOctet]

/-! ## The echo reaction -/

section Echo
variable {s : State} {l : LinkState} {c : Byte}

/-- A `TRANSITION` out of `SEND` while an echo is awaited is a collision (R202, R212). -/
theorem State.echo_of_ne_send (hp : s.txPhase = .waitEcho) (hl : l ≠ .send) :
    s.echo l = s.txCollide .collisionTimeout := by
  rw [State.echo, if_pos hp, if_pos hl]

/-- Another octet than the awaited one is a collision (R202, R212). -/
theorem State.echo_of_mismatch (hp : s.txPhase = .waitEcho) (ho : s.lastOctet ≠ s.txExpect) :
    s.echo .send = s.txCollide .collisionMismatch := by
  rw [State.echo, if_pos hp, if_neg (not_not.2 rfl), if_pos ho]

/-- The echo of the escape octet: the element itself is next (R212). -/
theorem State.echo_escape (hp : s.txPhase = .waitEcho) (ho : s.lastOctet = s.txExpect)
    (hn : s.txNeedsEsc = true) (hs : s.txSub = false) :
    s.echo .send = { s with txSub := true, txPhase := .put } := by
  rw [State.echo_of_eq hp ho, if_pos (by simp [hn, hs])]

/-- The echo of the element itself (R212). -/
theorem State.echo_element (hp : s.txPhase = .waitEcho) (ho : s.lastOctet = s.txExpect)
    (hn : s.txNeedsEsc = false ∨ s.txSub = true) : s.echo .send = s.txVerified := by
  rw [State.echo_of_eq hp ho, if_neg (by obtain hn | hn := hn <;> simp [hn])]

/-- A `SEND` without retries left gives up (R215). -/
theorem State.txCollide_of_no_retries (v : TxVerdict) (ht : s.txTask = .send) (hr : s.txRetries = 0) :
    s.txCollide v = s.txReturn (.sent 0) := by
  simp only [State.txCollide, ht, if_pos hr]

/-- A `SEND` with retries left starts over (R214). -/
theorem State.txCollide_of_retries (v : TxVerdict) (ht : s.txTask = .send) (hr : s.txRetries ≠ 0) :
    s.txCollide v = ({ s with txRetries := s.txRetries - 1 } : State).startAttempt := by
  simp only [State.txCollide, ht, if_neg hr]

/-- A part issued by itself returns its verdict (R203 to R205; log 19). -/
theorem State.txCollide_of_part (v : TxVerdict) (ht : s.txTask ≠ .send) :
    s.txCollide v = s.txReturn (.verdict v) := by
  unfold State.txCollide
  split
  · exact absurd ‹_› ht
  · rfl
  · rfl
  · rfl

/-- A frame goes on to its next element (R212). -/
theorem State.SendsFrame.txVerified (h : s.SendsFrame) : s.txVerified = s.txAdvance := by
  obtain h | h := h <;> simp only [State.txVerified, h]

theorem exec_txEcho {t : State} (h : s.echo l = t) : exec (.txEcho l) s = .next t := congrArg Host.Outcome.next h

/-- A `TXDATA` escapes its octet exactly when it is reserved (R204). -/
theorem State.txNeedsEsc_of_data (ht : s.txTask = .data c) : s.txNeedsEsc = true ↔ c = 0xFF ∨ c = 0xFE := by
  simp only [State.txNeedsEsc, State.txEscapable, State.txElem, ht, Bool.true_and, isReserved_iff]
  rfl

/-- A `TXOCT` never escapes its octet (R203). -/
theorem State.txNeedsEsc_of_oct (ht : s.txTask = .oct c) : s.txNeedsEsc = false := by
  simp only [State.txNeedsEsc, State.txEscapable, ht, Bool.false_and]

theorem State.txVerified_of_data (ht : s.txTask = .data c) :
    s.txVerified = ({ s with txSub := false } : State).txReturn (.verdict .ok) := by
  simp only [State.txVerified, ht]

theorem State.txVerified_of_oct (ht : s.txTask = .oct c) : s.txVerified = s.txReturn (.verdict .ok) := by
  simp only [State.txVerified, ht]

end Echo

/-- Settles O41: a collision of `SEND` by its retries, a verified element by its position. -/
theorem echoReaction : Obligations.EchoReaction := by
  refine fun s l => ⟨fun hp => exec_txEcho (State.echo_idle l hp), fun hp ht hc => ?collision, ?verified⟩
  case collision =>
    obtain ⟨v, hv⟩ : ∃ v, s.echo l = s.txCollide v := by
      by_cases hl : l = .send
      · subst hl
        exact ⟨_, State.echo_of_mismatch hp (hc.resolve_left (not_not.2 rfl))⟩
      · exact ⟨_, State.echo_of_ne_send hp hl⟩
    exact ⟨fun hr => exec_txEcho (hv.trans (State.txCollide_of_no_retries v ht hr)),
      fun hr => exec_txEcho (hv.trans (State.txCollide_of_retries v ht hr))⟩
  case verified =>
    rintro hp ht rfl ho
    have hf : s.SendsFrame := ht
    refine ⟨fun ⟨hn, hs⟩ => exec_txEcho (State.echo_escape hp ho hn hs), fun hn => ?_⟩
    have ha : s.echo .send = s.txAdvance := (State.echo_element hp ho hn).trans hf.txVerified
    refine ⟨fun o hk => ?_, fun hlo hhi => ?_, fun hlo => ?_⟩
    · obtain ⟨hlt, rfl⟩ := List.getElem?_eq_some_iff.1 hk
      have hput : s.txPos + 1 ≤ s.txPayload.length + 2 := by omega
      have hget := List.getD_eq_getElem s.txPayload 0 hlt
      exact exec_txEcho (ha.trans (by simp only [State.txAdvance, if_pos hlt, if_pos hput, hget]))
    · have hcrc : ¬s.txPos < s.txPayload.length := by omega
      have hput : s.txPos + 1 ≤ s.txPayload.length + 2 := by omega
      exact exec_txEcho (ha.trans (by simp only [State.txAdvance, if_neg hcrc, if_pos hput]))
    · have hcrc : ¬s.txPos < s.txPayload.length := by omega
      have hput : ¬s.txPos + 1 ≤ s.txPayload.length + 2 := by omega
      exact exec_txEcho (ha.trans (by simp only [State.txAdvance, if_neg hcrc, if_neg hput]))

/-- Settles O42: a collision returns its verdict; the right echo is that of the escape octet or that of the octet. -/
theorem echoVerdicts : Obligations.EchoVerdicts := by
  refine fun s l hp => ⟨fun ht hl => exec_txEcho ?_, ?mismatch, ?oct, ?data⟩
  · rw [State.echo_of_ne_send hp hl, State.txCollide_of_part _ ht]
    rfl
  case mismatch =>
    rintro ht rfl ho
    exact exec_txEcho ((State.echo_of_mismatch hp ho).trans (State.txCollide_of_part _ ht))
  case oct =>
    rintro c ht rfl ho
    exact exec_txEcho
      ((State.echo_element hp ho (.inl (State.txNeedsEsc_of_oct ht))).trans (State.txVerified_of_oct ht))
  case data =>
    rintro c ht rfl ho
    have hn := State.txNeedsEsc_of_data ht
    refine ⟨fun ⟨hc, hs⟩ => exec_txEcho (State.echo_escape hp ho (hn.2 hc) hs), fun h => ?_⟩
    have hbare : s.txNeedsEsc = false ∨ s.txSub = true :=
      h.imp_left fun hc => Bool.eq_false_iff.2 (mt hn.1 (not_or.2 hc))
    exact exec_txEcho ((State.echo_element hp ho hbare).trans (State.txVerified_of_data ht))

end Sys2Proof.Machine
end

section
/-! PROOFS. The registers of the TX sequencer (10_state.md R37) with the octets written to the UART: everything an
operation can do to them said once (`TxMove`), and how `tx_retries` goes (44_send.md R207, R214, R215). -/

namespace Sys2Proof.Machine

/-! ## The view -/

/-- The sequencer's registers, and what has been written to the UART (R37, R201). -/
structure TxRegs where
  phase : TxPhase
  task : TxTask
  payload : List Byte
  retries : Nat
  crc : Word16
  pos : Nat
  sub : Bool
  expect : Byte
  uart : List Byte

/-- The sequencer's registers of a state. -/
def State.txRegs (s : State) : TxRegs where
  phase := s.txPhase
  task := s.txTask
  payload := s.txPayload
  retries := s.txRetries
  crc := s.txCrc
  pos := s.txPos
  sub := s.txSub
  expect := s.txExpect
  uart := s.uartOctets

/-- Only `UART_TX` writes to the UART. -/
theorem State.emit_txRegs (s : State) (e : OutEvent) (h : ∀ o, e ≠ .uartTx o) : (s.emit e).txRegs = s.txRegs := by
  cases e with
  | uartTx o => exact absurd rfl (h o)
  | _ => simp [State.txRegs, State.uartOctets]

theorem State.putOctet_uartOctets (s : State) (o : Byte) : (s.putOctet o).uartOctets = s.uartOctets ++ [o] := by
  simp [State.uartOctets]

theorem State.enterBlockedFromRecv_txRegs (s : State) : s.enterBlockedFromRecv.txRegs = s.txRegs :=
  State.emit_txRegs { s with flags := { s.flags with dirty := true, esc := false } } .isrEvt (by simp)

theorem State.enterBlocked_txRegs (s : State) (origin : LinkState) : (s.enterBlocked origin).txRegs = s.txRegs := by
  unfold State.enterBlocked
  split
  · exact s.enterBlockedFromRecv_txRegs
  · rfl

theorem State.recvOctet_txRegs (s : State) : s.recvOctet.txRegs = s.txRegs := by
  obtain h | h | h := s.recvOctet_cases <;> rw [h]
  · rfl
  · exact State.enterBlocked_txRegs _ .recv
  · unfold State.append
    split <;> rfl

/-- Before it settles, an edge leaves the sequencer alone. -/
theorem State.edge_txRegs {s t : State} {sig : Signal} (h : s.edge sig = some t) : t.txRegs = s.txRegs := by
  obtain ⟨-, -, rfl⟩ | ⟨-, -, rfl⟩ | ⟨-, -, rfl⟩ | ⟨-, -, rfl⟩ | ⟨-, -, rfl⟩ | ⟨-, -, rfl⟩ |
    ⟨-, -, rfl⟩ | ⟨-, -, rfl⟩ := State.edge_cases h
  · exact s.enterBlocked_txRegs .undef
  · rfl
  · rfl
  · rfl
  · exact s.recvOctet_txRegs
  · exact s.enterBlocked_txRegs .recv
  · rfl
  · exact s.enterBlocked_txRegs .send

/-- With no echo awaited `Apply` leaves the sequencer alone. -/
theorem State.apply_txRegs {s : State} (hp : s.txPhase ≠ .waitEcho) (sig : Signal) :
    (s.apply sig).txRegs = s.txRegs := by
  obtain ⟨t, ht, h⟩ | ⟨-, h⟩ := s.apply_cases sig <;> rw [h]
  have hr := State.edge_txRegs ht
  have hpt : t.txPhase ≠ .waitEcho := fun h => hp ((congrArg TxRegs.phase hr).symm.trans h)
  rw [State.settle_idle hpt, State.emit_txRegs _ _ (by simp), hr]

/-! ## What an operation does to the sequencer -/

/-- The state after the start of `TXFRAME(p)` (R205). -/
def State.frameStarted (s : State) (p : List Byte) : State :=
  ({ s with txTask := .frame, txPayload := p } : State).startAttempt

/-- The state after the start of `TXDATA(c)` (R204). -/
def State.dataStarted (s : State) (c : Byte) : State :=
  ({ s with txTask := .data c, txSub := false } : State).putOctet (if isReserved c then Config.escOctet else c)

/-- The state after the start of `TXOCT(c)` (R203). -/
def State.octStarted (s : State) (c : Byte) : State := ({ s with txTask := .oct c } : State).putOctet c

/-- The moves of the sequencer. -/
inductive TxMove (s : State) : State → Prop
  /-- It stays. -/
  | stays : TxMove s s
  /-- A procedure starts (R203 to R207). -/
  | sendStarts (p : List Byte) (hp : s.txPhase = .off) : TxMove s (s.sendStarted p)
  | frameStarts (p : List Byte) (hp : s.txPhase = .off) : TxMove s (s.frameStarted p)
  | dataStarts (c : Byte) (hp : s.txPhase = .off) : TxMove s (s.dataStarted c)
  | octStarts (c : Byte) (hp : s.txPhase = .off) : TxMove s (s.octStarted c)
  /-- `TX_WAIT_IDLE` in `IDLE` (R206). -/
  | requests (hp : s.txPhase = .waitIdle) : TxMove s { s with txPhase := .request }
  /-- `TX_REQUEST`, accepted or refused (R208). -/
  | requested (q : TxPhase) (hp : s.txPhase = .request) (hq : q = .put ∨ q = .waitIdle) :
      TxMove s { s with txPhase := q }
  /-- `TX_PUT` (R206). -/
  | puts (hp : s.txPhase = .put) : TxMove s (s.putOctet s.txNextOctet)
  /-- The echo of the escape octet was verified (R212). -/
  | escapes (hp : s.txPhase = .waitEcho) (hn : s.txNeedsEsc = true) (hs : s.txSub = false) :
      TxMove s { s with txSub := true, txPhase := .put }
  /-- The echo of an element was verified (R212). -/
  | advances (hp : s.txPhase = .waitEcho) (hf : s.SendsFrame) (hn : s.txNeedsEsc = false ∨ s.txSub = true) :
      TxMove s s.txAdvance
  /-- A collision with retries left (R214). -/
  | retries (hp : s.txPhase = .waitEcho) (ht : s.txTask = .send) (hr : s.txRetries ≠ 0) :
      TxMove s ({ s with txRetries := s.txRetries - 1 } : State).startAttempt
  /-- The procedure returns: at the end (R213), at a collision (R203 to R205, R215), or verified (R203, R204, where
  `TXDATA` clears `tx_sub`). -/
  | returns (b : Bool) (r : OpResult) : TxMove s (({ s with txSub := b } : State).txReturn r)

/-- A collision costs a retry or ends the procedure. -/
theorem State.txCollide_move {s : State} (hp : s.txPhase = .waitEcho) (v : TxVerdict) : TxMove s (s.txCollide v) := by
  by_cases ht : s.txTask = .send
  · by_cases hr : s.txRetries = 0
    · rw [State.txCollide_of_no_retries v ht hr]
      exact .returns s.txSub _
    · rw [State.txCollide_of_retries v ht hr]
      exact .retries hp ht hr
  · rw [State.txCollide_of_part v ht]
    exact .returns s.txSub _

/-- A verified octet moves a frame on and ends a part. -/
theorem State.txVerified_move {s : State} (hp : s.txPhase = .waitEcho)
    (hn : s.txNeedsEsc = false ∨ s.txSub = true) : TxMove s s.txVerified := by
  obtain hf | ⟨c, ht⟩ | ⟨c, ht⟩ := s.txTask_cases
  · exact hf.txVerified ▸ .advances hp hf hn
  · exact State.txVerified_of_data ht ▸ .returns false _
  · exact State.txVerified_of_oct ht ▸ .returns s.txSub _

/-- The echo reaction is one move (R212). -/
theorem State.echo_move (s : State) (l : LinkState) : TxMove s (s.echo l) := by
  by_cases hp : s.txPhase = .waitEcho
  case neg =>
    rw [State.echo_idle l hp]
    exact .stays
  by_cases hl : l = .send
  case neg => exact State.echo_of_ne_send hp hl ▸ State.txCollide_move hp _
  subst hl
  by_cases ho : s.lastOctet = s.txExpect
  case neg => exact State.echo_of_mismatch hp ho ▸ State.txCollide_move hp _
  by_cases hn : s.txNeedsEsc = true ∧ s.txSub = false
  · exact State.echo_escape hp ho hn.1 hn.2 ▸ .escapes hp hn.1 hn.2
  · have hbare : s.txNeedsEsc = false ∨ s.txSub = true := by simpa [imp_iff_not_or] using hn
    exact State.echo_element hp ho hbare ▸ State.txVerified_move hp hbare

/-- What the sequencer sees of a step from `s` to `t`: one move, from a state with the registers of `s` to a state with
those of `t`. -/
def TxChange (s t : State) : Prop := ∃ u v, u.txRegs = s.txRegs ∧ TxMove u v ∧ t.txRegs = v.txRegs

theorem TxMove.change {s t : State} (h : TxMove s t) : TxChange s t := ⟨s, t, rfl, h, rfl⟩

theorem TxChange.of_eq {s t : State} (h : t.txRegs = s.txRegs) : TxChange s t := ⟨s, s, rfl, .stays, h⟩

/-- `Apply` moves the sequencer by the reaction to the `TRANSITION` it emits. -/
theorem State.apply_txChange (s : State) (sig : Signal) : TxChange s (s.apply sig) := by
  obtain ⟨t, ht, h⟩ | ⟨-, h⟩ := s.apply_cases sig <;> rw [h]
  · have hu : (t.emit (.transition t.link)).txRegs = s.txRegs :=
      (State.emit_txRegs t _ (by simp)).trans (State.edge_txRegs ht)
    exact ⟨_, _, hu, State.echo_move _ t.link, rfl⟩
  · exact .of_eq rfl

/-- A step of the sequencer is one move (R206). -/
theorem State.txAct_txChange (s : State) : TxChange s s.txAct := by
  obtain h | ⟨hp, -, h⟩ | ⟨hp, h⟩ | ⟨hp, h⟩ | ⟨hp, h⟩ := s.txAct_cases <;> rw [h]
  · exact .of_eq rfl
  · exact (TxMove.requests hp).change
  · have hu : (s.apply .send).txRegs = s.txRegs := State.apply_txRegs (by simp [hp]) .send
    have hq : (s.apply .send).txPhase = .request := (congrArg TxRegs.phase hu).trans hp
    exact ⟨_, _, hu, .requested _ hq (by split <;> simp), rfl⟩
  · exact (TxMove.puts hp).change
  · have hu : (s.apply .endTx).txRegs = s.txRegs := State.apply_txRegs (by simp [hp]) .endTx
    exact ⟨_, _, hu, .returns _ s.txDone, rfl⟩

/-- Everything an operation that answers a next state can do to the sequencer: the FSM moves it by its reaction, and
every operation but the sequencer's own leaves it alone. -/
theorem exec_txChange {i : Instr} {s t : State} (h : exec i s = .next t) : TxChange s t := by
  cases exec_effect h with
  | octet o => exact State.apply_txChange { s with lastOctet := o } .uart
  | edge _ sig => exact s.apply_txChange sig
  | apply sig => exact s.apply_txChange sig
  | gpio => exact s.apply_txChange .gpio
  | timer => exact State.apply_txChange { s with tmrArmed := false } .xtimer
  | init => exact State.apply_txChange { s.clearBuffer with link := .undef } .init
  | complete => exact .of_eq (s.emit_txRegs .rxComplete (by simp))
  | enterBlocked origin => exact .of_eq (s.enterBlocked_txRegs origin)
  | enterBlockedFromRecv => exact .of_eq s.enterBlockedFromRecv_txRegs
  | startSend p _ hp => exact (TxMove.sendStarts p hp).change
  | startFrame p _ hp => exact (TxMove.frameStarts p hp).change
  | startData c _ hp => exact (TxMove.dataStarts c hp).change
  | startOct c _ hp => exact (TxMove.octStarts c hp).change
  | act => exact s.txAct_txChange
  | echo l => exact (s.echo_move l).change
  | _ => exact .of_eq rfl

/-! ## Retries -/

/-- A move of a running sequencer keeps procedure and payload and raises no retries, and a new attempt after an awaited
echo costs one. -/
theorem TxMove.running {s t : State} (h : TxMove s t) (hp : s.txPhase ≠ .off) :
    t.txTask = s.txTask ∧ t.txPayload = s.txPayload ∧ t.txRetries ≤ s.txRetries ∧
    (s.txPhase = .waitEcho → t.txPhase = .waitIdle → t.txRetries + 1 = s.txRetries) := by
  cases h with
  | sendStarts _ h => exact absurd h hp
  | frameStarts _ h => exact absurd h hp
  | dataStarts _ h => exact absurd h hp
  | octStarts _ h => exact absurd h hp
  | stays => exact ⟨rfl, rfl, le_rfl, fun he hi => by simp [he] at hi⟩
  | requests h => exact ⟨rfl, rfl, le_rfl, fun he => by simp [h] at he⟩
  | requested _ h => exact ⟨rfl, rfl, le_rfl, fun he => by simp [h] at he⟩
  | puts h => exact ⟨rfl, rfl, le_rfl, fun he => by simp [h] at he⟩
  | escapes => exact ⟨rfl, rfl, le_rfl, fun _ hi => by simp at hi⟩
  | advances =>
    refine ⟨rfl, rfl, le_rfl, fun _ hi => ?_⟩
    simp only [State.txAdvance] at hi
    split at hi <;> cases hi
  | retries _ _ hr => exact ⟨rfl, rfl, Nat.sub_le _ 1, fun _ _ => Nat.succ_pred_eq_of_ne_zero hr⟩
  | returns => exact ⟨rfl, rfl, le_rfl, fun _ hi => by simp at hi⟩

/-- Settles O45 through the one move that the operation makes. -/
theorem retriesOnlyDecrease : Obligations.RetriesOnlyDecrease := by
  intro i s t hp h
  obtain ⟨u, v, hu, huv, ht⟩ := exec_txChange h
  have hs : s.txRegs = u.txRegs := hu.symm
  simp only [State.txRegs, TxRegs.mk.injEq] at hs ht
  obtain ⟨hphase, htask, hpayload, hretries, -⟩ := hs
  obtain ⟨hphase', htask', hpayload', hretries', -⟩ := ht
  rw [hphase, htask, hpayload, hretries, hphase', htask', hpayload', hretries']
  exact huv.running (hphase ▸ hp)

end Sys2Proof.Machine
end

section
/-! PROOFS. The sequencer's invariant (44_send.md R206 to R212, R217): what it says phase by phase, and that every move
keeps it. -/

namespace Sys2Proof.Machine

/-! ## The invariant by phase -/

/-- A frame is at the element `tx_pos`: the running CRC is that of the payload octets before it, a verified escape octet
belongs to an element that needs one, and the last octets written to the UART are the elements before it, the verified
escape octet and `w`, an octet whose echo is awaited. -/
structure AtElement (s : State) (w : List Byte) : Prop where
  pos_le : s.txPos ≤ s.txPayload.length + 2
  crc : s.txCrc = crcFrame (s.txPayload.take s.txPos)
  escaped : s.txSub = true → s.txNeedsEsc = true
  written : wireUpTo s.txPayload s.txPos ++ (if s.txSub then [Config.escOctet] else []) ++ w <:+ s.uartOctets

section Phases
variable {s : State}

theorem frameOk_of_off (hp : s.txPhase = .off) : FrameOk s := by
  simp only [FrameOk, hp]

/-- Before its first octet an attempt is at the start. -/
theorem frameOk_iff_of_start (hp : s.txPhase = .waitIdle ∨ s.txPhase = .request) :
    FrameOk s ↔ s.txPos = 0 ∧ s.txCrc = Config.crcSeed ∧ s.txSub = false := by
  obtain hp | hp := hp <;> simp only [FrameOk, hp]

theorem frameOk_iff_of_put (hp : s.txPhase = .put) : FrameOk s ↔ AtElement s [] := by
  have hw : s.attemptOctets = wireUpTo s.txPayload s.txPos ++ (if s.txSub then [Config.escOctet] else []) ++ [] := by
    simp [State.attemptOctets, hp]
  simp only [FrameOk, hp, hw]
  exact ⟨fun ⟨hk, hc, he, hu⟩ => ⟨hk, hc, he, hu⟩, fun ⟨hk, hc, he, hu⟩ => ⟨hk, hc, he, hu⟩⟩

/-- The awaited octet is the one that `TX_PUT` chose. -/
theorem frameOk_iff_of_waitEcho (hp : s.txPhase = .waitEcho) :
    FrameOk s ↔ s.txExpect = s.txNextOctet ∧ AtElement s [s.txNextOctet] := by
  have hw : s.attemptOctets =
      wireUpTo s.txPayload s.txPos ++ (if s.txSub then [Config.escOctet] else []) ++ [s.txExpect] := by
    simp [State.attemptOctets, hp]
  simp only [FrameOk, hp, hw]
  exact ⟨fun ⟨hk, hc, he, ho, hu⟩ => ⟨ho, hk, hc, he, ho ▸ hu⟩,
    fun ⟨ho, hk, hc, he, hu⟩ => ⟨hk, hc, he, ho, ho.symm ▸ hu⟩⟩

theorem frameOk_iff_of_finish (hp : s.txPhase = .finish) :
    FrameOk s ↔ s.txPos = s.txPayload.length + 3 ∧ s.txCrc = crcFrame s.txPayload ∧
      wireOctets s.txPayload <:+ s.uartOctets := by
  simp only [FrameOk, hp]

/-- Of a frame the invariant is the retries' range and the frame's registers. -/
theorem State.SendsFrame.txOk_iff (h : s.SendsFrame) : TxOk s ↔ s.txRetries ≤ Config.maxRetries ∧ FrameOk s := by
  obtain h | h := h <;> simp only [TxOk, h]

theorem txOk_iff_of_data {c : Byte} (h : s.txTask = .data c) :
    TxOk s ↔ s.txRetries ≤ Config.maxRetries ∧
      (s.txPhase = .off ∨ s.txPhase = .waitEcho ∨ (s.txPhase = .put ∧ s.txSub = true)) := by
  simp only [TxOk, h]

theorem txOk_iff_of_oct {c : Byte} (h : s.txTask = .oct c) :
    TxOk s ↔ s.txRetries ≤ Config.maxRetries ∧ (s.txPhase = .off ∨ s.txPhase = .waitEcho) := by
  simp only [TxOk, h]

theorem TxOk.retries_le (h : TxOk s) : s.txRetries ≤ Config.maxRetries := h.1

theorem TxOk.frameOk (h : TxOk s) (hf : s.SendsFrame) : FrameOk s := (hf.txOk_iff.1 h).2

/-- With the sequencer off only the retries matter. -/
theorem txOk_of_off (hr : s.txRetries ≤ Config.maxRetries) (hp : s.txPhase = .off) : TxOk s := by
  obtain hf | ⟨c, ht⟩ | ⟨c, ht⟩ := s.txTask_cases
  · exact hf.txOk_iff.2 ⟨hr, frameOk_of_off hp⟩
  · exact (txOk_iff_of_data ht).2 ⟨hr, .inl hp⟩
  · exact (txOk_iff_of_oct ht).2 ⟨hr, .inl hp⟩

/-- A part of its own never waits for `IDLE`, requests or finishes. -/
theorem TxOk.sendsFrame (h : TxOk s) (hp : s.txPhase = .waitIdle ∨ s.txPhase = .request ∨ s.txPhase = .finish) :
    s.SendsFrame := by
  obtain hf | ⟨c, ht⟩ | ⟨c, ht⟩ := s.txTask_cases
  · exact hf
  · obtain ⟨-, hq | hq | ⟨hq, -⟩⟩ := (txOk_iff_of_data ht).1 h <;> simp [hq] at hp
  · obtain ⟨-, hq | hq⟩ := (txOk_iff_of_oct ht).1 h <;> simp [hq] at hp

end Phases

/-- The invariant speaks of the sequencer's registers and the UART's octets only. -/
theorem TxOk.congr {s t : State} (h : t.txRegs = s.txRegs) (hs : TxOk s) : TxOk t := by
  simp only [State.txRegs, TxRegs.mk.injEq] at h
  obtain ⟨hphase, htask, hpayload, hretries, hcrc, hpos, hsub, hexpect, huart⟩ := h
  have helem : t.txElem = s.txElem := by simp only [State.txElem, htask, hpayload, hcrc, hpos]
  have hescapable : t.txEscapable = s.txEscapable := by simp only [State.txEscapable, htask, hpayload, hpos]
  have hneeds : t.txNeedsEsc = s.txNeedsEsc := by rw [State.txNeedsEsc, helem, hescapable, ← State.txNeedsEsc]
  have hnext : t.txNextOctet = s.txNextOctet := by rw [State.txNextOctet, hneeds, hsub, helem, ← State.txNextOctet]
  have hattempt : t.attemptOctets = s.attemptOctets := by
    rw [State.attemptOctets, hpayload, hpos, hsub, hphase, hexpect, ← State.attemptOctets]
  simpa only [TxOk, FrameOk, hattempt, hneeds, hnext, hphase, htask, hpayload, hretries, hcrc, hpos, hsub, hexpect,
    huart] using hs

/-! ## The elements -/

section Elements
variable {s : State}

/-- An attempt begins at its first element, with nothing written (R207). -/
theorem atElement_of_start (hk : s.txPos = 0) (hc : s.txCrc = Config.crcSeed) (hs : s.txSub = false) :
    AtElement s [] where
  pos_le := hk ▸ Nat.zero_le _
  crc := by rw [hk, hc]; rfl
  escaped h := by simp [hs] at h
  written := by simp [hk, hs, wireUpTo_zero]

/-- The wire form of the element the sequencer is at. -/
theorem AtElement.wireElems {w : List Byte} (h : AtElement s w) (hf : s.SendsFrame) :
    (wireElems s.txPayload)[s.txPos]? =
      some (if s.txNeedsEsc then [Config.escOctet, s.txElem] else [s.txElem]) := by
  rw [wireElems_getElem? h.pos_le, ← h.crc, ← hf.txElem]
  simp only [State.txNeedsEsc, hf.txEscapable, encOctet]
  by_cases hk : s.txPos ≤ s.txPayload.length + 1 <;> simp [hk]

/-- Writing an octet appends it to the attempt. -/
theorem AtElement.putOctet (h : AtElement s []) (o : Byte) : AtElement (s.putOctet o) [o] where
  pos_le := h.pos_le
  crc := h.crc
  escaped := h.escaped
  written := by
    obtain ⟨u, hu⟩ := h.written
    rw [List.append_nil] at hu
    rw [s.putOctet_uartOctets, ← hu]
    exact ⟨u, (List.append_assoc u _ [o]).symm⟩

/-- The verified escape octet belongs to its element (R211). -/
theorem AtElement.escape (h : AtElement s [s.txNextOctet]) (hn : s.txNeedsEsc = true)
    (hs : s.txSub = false) : AtElement { s with txSub := true, txPhase := .put } [] where
  pos_le := h.pos_le
  crc := h.crc
  escaped _ := hn
  written := by
    have ho : s.txNextOctet = Config.escOctet := by simp [State.txNextOctet, hn, hs]
    have hw := h.written
    rw [hs, ho] at hw
    show wireUpTo s.txPayload s.txPos ++ [Config.escOctet] ++ [] <:+ s.uartOctets
    simpa using hw

/-- After the octet of an element all of the element is written. -/
theorem AtElement.written_succ (h : AtElement s [s.txNextOctet]) (hf : s.SendsFrame)
    (hn : s.txNeedsEsc = false ∨ s.txSub = true) : wireUpTo s.txPayload (s.txPos + 1) <:+ s.uartOctets := by
  have hw := h.written
  rw [wireUpTo_succ (h.wireElems hf)]
  cases hs : s.txSub with
  | false =>
    have hne : s.txNeedsEsc = false := by simpa [hs] using hn
    simpa [State.txNextOctet, hne, hs] using hw
  | true =>
    have hne : s.txNeedsEsc = true := h.escaped hs
    simpa [State.txNextOctet, hne, hs] using hw

/-- A verified payload octet goes into `tx_crc` (R209). -/
theorem AtElement.crc_succ {w : List Byte} (h : AtElement s w) :
    s.txAdvance.txCrc = crcFrame (s.txPayload.take (s.txPos + 1)) := by
  by_cases hk : s.txPos < s.txPayload.length
  · rw [crcFrame_take_succ hk, ← h.crc]
    exact if_pos hk
  · have htake : s.txPayload.take (s.txPos + 1) = s.txPayload.take s.txPos := by
      rw [List.take_of_length_le (by omega), List.take_of_length_le (by omega)]
    rw [htake, ← h.crc]
    exact if_neg hk

/-- A verified element leads to the next one, or the end octet to the whole wire form (R212, R217). -/
theorem AtElement.advance (h : AtElement s [s.txNextOctet]) (hf : s.SendsFrame)
    (hn : s.txNeedsEsc = false ∨ s.txSub = true) : FrameOk s.txAdvance := by
  have hcrc := h.crc_succ
  have hw := h.written_succ hf hn
  by_cases hk : s.txPos + 1 ≤ s.txPayload.length + 2
  · have hp : s.txAdvance.txPhase = .put := if_pos hk
    refine (frameOk_iff_of_put hp).2 ⟨hk, hcrc, fun he => absurd he Bool.false_ne_true, ?_⟩
    show wireUpTo s.txPayload (s.txPos + 1) ++ [] ++ [] <:+ s.uartOctets
    simpa using hw
  · have hp : s.txAdvance.txPhase = .finish := if_neg hk
    have hpos : s.txPos + 1 = s.txPayload.length + 3 := by have := h.pos_le; omega
    rw [hpos, List.take_of_length_le (by omega)] at hcrc
    rw [hpos, wireUpTo_length] at hw
    exact (frameOk_iff_of_finish hp).2 ⟨hpos, hcrc, hw⟩

end Elements

/-! ## Every move keeps the invariant -/

section Moves
variable {s : State}

theorem TxOk.startAttempt {t : State} (hf : t.SendsFrame) (hr : t.txRetries ≤ Config.maxRetries) :
    TxOk t.startAttempt :=
  (State.SendsFrame.txOk_iff (s := t.startAttempt) hf).2
    ⟨hr, (frameOk_iff_of_start (.inl rfl)).2 ⟨rfl, rfl, rfl⟩⟩

/-- The request of a frame leads to its first element or back to waiting (R208). -/
theorem TxOk.requested (h : TxOk s) (hp : s.txPhase = .request) {q : TxPhase} (hq : q = .put ∨ q = .waitIdle) :
    TxOk { s with txPhase := q } := by
  have hf : s.SendsFrame := h.sendsFrame (.inr (.inl hp))
  have hstart := (frameOk_iff_of_start (.inr hp)).1 (h.frameOk hf)
  refine (State.SendsFrame.txOk_iff (s := { s with txPhase := q }) hf).2 ⟨h.retries_le, ?_⟩
  obtain ⟨hk, hc, hs⟩ := hstart
  obtain rfl | rfl := hq
  · exact (frameOk_iff_of_put rfl).2 (atElement_of_start hk hc hs)
  · exact (frameOk_iff_of_start (.inl rfl)).2 ⟨hk, hc, hs⟩

/-- The octet that `TX_PUT` writes is the awaited one. -/
theorem TxOk.puts (h : TxOk s) (hp : s.txPhase = .put) : TxOk (s.putOctet s.txNextOctet) := by
  obtain hf | ⟨c, ht⟩ | ⟨c, ht⟩ := s.txTask_cases
  · have hel : AtElement s [] := (frameOk_iff_of_put hp).1 (h.frameOk hf)
    exact (State.SendsFrame.txOk_iff (s := s.putOctet s.txNextOctet) hf).2
      ⟨h.retries_le, (frameOk_iff_of_waitEcho rfl).2 ⟨rfl, hel.putOctet s.txNextOctet⟩⟩
  · exact (txOk_iff_of_data (s := s.putOctet s.txNextOctet) ht).2 ⟨h.retries_le, .inr (.inl rfl)⟩
  · exact (txOk_iff_of_oct (s := s.putOctet s.txNextOctet) ht).2 ⟨h.retries_le, .inr rfl⟩

/-- A verified escape octet is followed by its element. -/
theorem TxOk.escapes (h : TxOk s) (hp : s.txPhase = .waitEcho) (hn : s.txNeedsEsc = true) (hs : s.txSub = false) :
    TxOk { s with txSub := true, txPhase := .put } := by
  obtain hf | ⟨c, ht⟩ | ⟨c, ht⟩ := s.txTask_cases
  · obtain ⟨-, hel⟩ := (frameOk_iff_of_waitEcho hp).1 (h.frameOk hf)
    exact (State.SendsFrame.txOk_iff (s := { s with txSub := true, txPhase := .put }) hf).2
      ⟨h.retries_le, (frameOk_iff_of_put rfl).2 (hel.escape hn hs)⟩
  · exact (txOk_iff_of_data (s := { s with txSub := true, txPhase := .put }) ht).2
      ⟨h.retries_le, .inr (.inr ⟨rfl, rfl⟩)⟩
  · exact absurd (hn.symm.trans (State.txNeedsEsc_of_oct ht)) (by decide)

theorem TxOk.advances (h : TxOk s) (hp : s.txPhase = .waitEcho) (hf : s.SendsFrame)
    (hn : s.txNeedsEsc = false ∨ s.txSub = true) : TxOk s.txAdvance := by
  obtain ⟨-, hel⟩ := (frameOk_iff_of_waitEcho hp).1 (h.frameOk hf)
  exact (State.SendsFrame.txOk_iff (s := s.txAdvance) hf).2 ⟨h.retries_le, hel.advance hf hn⟩

/-- Every move of the sequencer keeps its invariant. -/
theorem TxMove.txOk {t : State} (h : TxMove s t) (hs : TxOk s) : TxOk t := by
  have hr := hs.retries_le
  cases h with
  | stays => exact hs
  | sendStarts p => exact TxOk.startAttempt (.inl rfl) le_rfl
  | frameStarts p => exact TxOk.startAttempt (.inr rfl) hr
  | dataStarts c => exact (txOk_iff_of_data (s := s.dataStarted c) rfl).2 ⟨hr, .inr (.inl rfl)⟩
  | octStarts c => exact (txOk_iff_of_oct (s := s.octStarted c) rfl).2 ⟨hr, .inr rfl⟩
  | requests hp =>
    have hf : s.SendsFrame := hs.sendsFrame (.inl hp)
    have hstart := (frameOk_iff_of_start (.inl hp)).1 (hs.frameOk hf)
    exact (State.SendsFrame.txOk_iff (s := { s with txPhase := .request }) hf).2
      ⟨hr, (frameOk_iff_of_start (.inr rfl)).2 hstart⟩
  | requested q hp hq => exact hs.requested hp hq
  | puts hp => exact hs.puts hp
  | escapes hp hn hsub => exact hs.escapes hp hn hsub
  | advances hp hf hn => exact hs.advances hp hf hn
  | retries hp ht =>
    exact TxOk.startAttempt (t := { s with txRetries := s.txRetries - 1 }) (.inl ht) ((Nat.sub_le _ 1).trans hr)
  | returns b r => exact txOk_of_off hr rfl

end Moves

/-- Settles O43: with nothing pending the state stays; otherwise the operation makes one move of the sequencer. -/
theorem sequencerInvariantKept : Obligations.SequencerInvariantKept := by
  intro s t hs h
  obtain ⟨-, rfl⟩ | ⟨packet, rest, i, -, -, hi⟩ := step_cases h
  · exact hs
  · obtain ⟨u, v, hu, huv, ht⟩ := exec_txChange hi
    have hrest : TxOk { s with pending := rest } := hs
    exact (huv.txOk (hrest.congr hu)).congr ht

/-! ## The return of `SEND` -/

/-- The return leaves what has been written to the UART, and appends its value to the results (R213). -/
theorem State.txAct_finish_log {s : State} (hp : s.txPhase = .finish) :
    s.txAct.txPhase = .off ∧ s.txAct.uartOctets = s.uartOctets ∧ s.txAct.results = s.results ++ [s.txDone] := by
  by_cases hl : s.link = .send
  · rw [State.txAct_finish_of_send hp hl]
    refine ⟨rfl, ?_, rfl⟩
    simp [State.uartOctets, State.enterBlocked]
  · rw [State.txAct_finish_of_not_send hp hl]
    exact ⟨rfl, rfl, rfl⟩

/-- Settles O44: in `TX_FINISH` the invariant says that the whole wire form is written. -/
theorem sendReturnsAfterTheWholeFrame : Obligations.SendReturnsAfterTheWholeFrame := by
  intro s hs hp ht
  obtain ⟨-, -, hw⟩ := (frameOk_iff_of_finish hp).1 (hs.frameOk (.inl ht))
  obtain ⟨hoff, huart, hresults⟩ := State.txAct_finish_log hp
  rw [State.txDone_eq (.inl ⟨ht, rfl⟩)] at hresults
  exact ⟨s.txAct, rfl, hoff, hresults, huart ▸ hw⟩

end Sys2Proof.Machine
end

section
/-! PROOFS. Initialisation and configuration: `INIT`, `GET`, `SET` (45_config.md). -/

namespace Sys2Proof.Machine

/-! ## `INIT` (R231, R232) -/

/-- `INIT` is the edge out of `UNDEF`, taken from the cleared state, and the result 0 (R147, R231, R232). -/
theorem exec_init (s : State) :
    exec .init s =
      .next (({ s.clearBuffer.enterBlocked .undef with link := .blocked } : State).settle.answer (.status 0)) :=
  congrArg (fun t : State => Host.Outcome.next (t.answer (.status 0)))
    (State.apply_init_of_undef (s := { s.clearBuffer with link := .undef }) rfl)

/-- Settles O47: the entry of `BLOCKED` from `UNDEF` arms the short back-off, whatever `state` was before. -/
theorem initResetsTransientState : Obligations.InitResetsTransientState := by
  intro s hT
  obtain ⟨hlo, hhi⟩ := s.backoffShort_bounds hT
  refine ⟨s.backoffShort, _, hlo, hhi, rfl, ?_⟩
  rw [exec_init, State.enterBlocked_eq]
  rfl

/-! ## `GET` and `SET` (R233 to R236) -/

/-- A buffer with room for the address is given `mac` (R233). -/
theorem exec_getAddress_of_room {n : Nat} (h : Config.addrLen ≤ n) (s : State) :
    exec (.getAddress n) s = .next (s.answer (.address s.mac)) :=
  if_neg (Nat.not_lt.2 h)

/-- A buffer too short for the address has no meaning (R233, log 14). -/
theorem exec_getAddress_of_short {n : Nat} (h : n < Config.addrLen) (s : State) :
    exec (.getAddress n) s = .refused .addressBufferShort :=
  if_pos h

/-- Settles O48: the address by the length of the caller's buffer; the promiscuous mode without a condition. -/
theorem getReturnsTheOption : Obligations.GetReturnsTheOption := fun s _ =>
  ⟨fun h => exec_getAddress_of_room h s, fun h => exec_getAddress_of_short h s, rfl⟩

/-- Settles O49: each value of `SET.PROMISCUOUSMODE` computes, the status being the free value at the counter; the
delegated options append their answer. -/
theorem setWritesTheOption : Obligations.SetWritesTheOption := fun s _ _ _ =>
  ⟨⟨Config.setStatus s.freeCtr, rfl⟩, ⟨Config.setStatus s.freeCtr, rfl⟩, rfl, rfl, rfl⟩

end Sys2Proof.Machine
end

section
/-! PROOFS. A second user of the sequencer (93_implementation_defined.md U4, 70_reset_and_hazards.md R293). -/

namespace Sys2Proof.Machine

/-- While the sequencer runs, no procedure of it starts, whatever its start would write (U4, log 12). -/
theorem State.startTx_of_busy {s : State} (h : s.txPhase ≠ .off) (t : State) :
    s.startTx t = .refused .senderBusy :=
  if_neg h

/-- Settles O38: `SEND` and its parts go through one start, and the test of `tx_phase` comes before what each writes. -/
theorem busySequencerRefusesASecondSend : Obligations.BusySequencerRefusesASecondSend :=
  fun _ _ _ h =>
    ⟨State.startTx_of_busy h _, State.startTx_of_busy h _, State.startTx_of_busy h _, State.startTx_of_busy h _⟩

end Sys2Proof.Machine
end
